-- ==== Sys2Proof/Word.lean ====
section
/-! DEFINITION. The two word types of the machine (00_scope.md R6, R8): `u8` and `u16` values. -/

namespace Sys2Proof

/-- An 8-bit value: a register half, a memory byte, an opcode (00_scope.md R8). -/
abbrev Byte := BitVec 8

/-- A 16-bit value: a register pair, an address (00_scope.md R8). -/
abbrev Word := BitVec 16

end Sys2Proof
end

