-- ==== Sys2Proof/Machine/Bits.lean ====
section
/-! DEFINITION. The bit and word utilities of 00_scope.md R8 and R9. -/

namespace Sys2Proof

/-- `hi(v) = v[15:8]` (R9). -/
def hi (v : Word) : Byte := v.extractLsb' 8 8
/-- `lo(v) = v[7:0]` (R9). -/
def lo (v : Word) : Byte := v.extractLsb' 0 8
/-- `word(h, l) = h ++ l` (R9). -/
def word (h l : Byte) : Word := h ++ l
/-- `with_hi(v, b) = b ++ v[7:0]` (R9). -/
def withHi (v : Word) (b : Byte) : Word := word b (lo v)
/-- `with_lo(v, b) = v[15:8] ++ b` (R9). -/
def withLo (v : Word) (b : Byte) : Word := word (hi v) b
/-- `bit(v, n) = (v[n] = 1)` on a byte (R9). -/
def bit (v : Byte) (n : Fin 8) : Bool := v.getLsbD n
/-- `set_bit(v, n)`: `v` with bit `n` forced to 1 (R9). -/
def setBit (v : Byte) (n : Fin 8) : Byte := v ||| ((1 : Byte) <<< n.val)
/-- `clear_bit(v, n)`: `v` with bit `n` forced to 0 (R9). -/
def clearBit (v : Byte) (n : Fin 8) : Byte := v &&& ~~~((1 : Byte) <<< n.val)
/-- `bit(v, n)` on a word (R9). -/
def bit16 (v : Word) (n : Fin 16) : Bool := v.getLsbD n
/-- `set_bit(v, n)` on a word (R9). -/
def setBit16 (v : Word) (n : Fin 16) : Word := v ||| ((1 : Word) <<< n.val)
/-- `sext_16(b)`: `b` if `b[7] = 0`, `0xFF00 + b` if `b[7] = 1` (R8). -/
def sext16 (b : Byte) : Word := b.signExtend 16
/-- `zext_16(b) = 0x0000 + b` (R8). -/
def zext16 (b : Byte) : Word := b.zeroExtend 16

end Sys2Proof
end

