-- ==== Sys2Proof/Config.lean ====
section
/-! DEFINITION. What the hardware fixes once and for all (00_scope.md R6): the sizes of the stores and the two addresses
that do something of their own. The launch parameters of R7 are fields of `Machine.Launch`, so that a statement over every
state covers every value of them. -/

namespace Sys2Proof

/-- Bytes of the boot overlay image (R6). -/
def Config.bootSize : Nat := 0x100
/-- Bytes of the cartridge ROM buffer, and the longest image accepted (R6, 20_memory.md R71). -/
def Config.cartSize : Nat := 0xFFFF
/-- Bytes of video RAM (R6). -/
def Config.vramSize : Nat := 0x2000
/-- Bytes of sprite attribute memory (R6). -/
def Config.oamSize : Nat := 0xA0
/-- Bytes of the I/O register block (R6). -/
def Config.ioSize : Nat := 0x80
/-- Bytes of high RAM (R6). -/
def Config.hramSize : Nat := 0x7F
/-- The offset of the overlay disable register in the I/O block (10_state.md R31). -/
def Config.overlayOffset : Nat := 0x50
/-- The base of the high page reached by `LDH` and `(C)` (40_load8.md R150). -/
def Config.highPage : Word := 0xFF00

/-- `WRAM_SIZE`, the one parameter with two legal values (R7, 20_memory.md R63). -/
inductive WramSize where
  /-- 0x2000: the two windows are one linear store, the spec's own choice where one value is needed (92_eei_decisions.md D11). -/
  | full
  /-- 0x1000: the second window mirrors the first. -/
  | half
deriving DecidableEq, Repr

/-- The number of bytes of the work-RAM store (20_memory.md R63). -/
def WramSize.bytes : WramSize → Nat
  | .full => 0x2000
  | .half => 0x1000

end Sys2Proof
end

