-- ==== Sys2Proof/Machine/Memory.lean ====
section
/-! DEFINITION. A byte store as plain data: (offset, byte) pairs in one canonical form (offsets strictly rising, no entry equal
to what an unlisted offset reads as), with its read and its write. Every store of the MMU (10_state.md R35) is one of these. -/

namespace Sys2Proof.Machine

/-- A byte store: listed cells, every other offset reading `Memory.unlisted`. -/
abbrev Memory := List Host.Cell

/-- What an unlisted offset reads as. For `cart_rom` the spec gives it: the buffer is zero-padded (20_memory.md R71).
For the RAM stores, `BOOT_ROM` and `io` it is the reset content this model chose, DESIGN CHOICE (notes/assumptions/1.md, 2.md). -/
def Memory.unlisted : Byte := 0x00

/-- The byte at an offset. -/
def Memory.get : Memory → Nat → Byte
  | [], _ => Memory.unlisted
  | (k, v) :: rest, n => if n = k then v else Memory.get rest n

/-- `v` at offset `n`, every other offset as before. Writing what an unlisted offset reads as removes the entry, so that equal
stores are equal lists. -/
def Memory.set : Memory → Nat → Byte → Memory
  | [], n, v => if v = Memory.unlisted then [] else [(n, v)]
  | (k, w) :: rest, n, v =>
    if n < k then (if v = Memory.unlisted then (k, w) :: rest else (n, v) :: (k, w) :: rest)
    else if n = k then (if v = Memory.unlisted then rest else (n, v) :: rest)
    else (k, w) :: Memory.set rest n v

/-- The cells from offset `low` on are in canonical form. -/
def Memory.wfFrom : Nat → Memory → Bool
  | _, [] => true
  | low, (k, v) :: rest => decide (low ≤ k) && decide (v ≠ Memory.unlisted) && Memory.wfFrom (k + 1) rest

/-- The canonical form: offsets strictly rising, no entry that reads like an unlisted offset. -/
def Memory.wf (m : Memory) : Bool := Memory.wfFrom 0 m

/-- Every listed offset lies below the store's size. -/
def Memory.below (m : Memory) (size : Nat) : Bool := m.all fun cell => decide (cell.1 < size)

/-- The store whose offsets `n`, `n + 1`, … hold the given bytes, every other offset unlisted. -/
def Memory.ofBytesFrom : Nat → List Byte → Memory
  | _, [] => []
  | n, v :: rest =>
    if v = Memory.unlisted then Memory.ofBytesFrom (n + 1) rest else (n, v) :: Memory.ofBytesFrom (n + 1) rest

/-- The store that holds the given bytes from offset 0 on. -/
def Memory.ofBytes (bytes : List Byte) : Memory := Memory.ofBytesFrom 0 bytes

end Sys2Proof.Machine
end

