-- ==== Sys2Proof/Machine/State.lean ====
section
/-! DEFINITION. The state of the machine as plain data (10_state.md R20), its faults, and the state right after reset. -/

namespace Sys2Proof.Machine

/-- The report of a fatal error: the condition's name and its two recorded values (60_exceptions.md R320, R321, R324). -/
inductive FaultReport where
  /-- `E1`: the offending opcode byte and the address of the instruction's first byte (R320). -/
  | unimplementedOpcode (op : Byte) (pc : Word)
  /-- `E2`: the offending address and the attempted value (R321). -/
  | unimplementedMemoryCapability (addr : Word) (value : Byte)
deriving DecidableEq, Repr

/-- The launch parameters of 00_scope.md R7 that stay as configuration for the whole run (10_state.md R20, 70 R353). They are
plain data beside the state, so that a statement over every state is one over every launch. -/
structure Launch where
  /-- `BOOT_ROM`, 256 bytes (20_memory.md R59). -/
  bootRom : Memory
  /-- `cart_rom`, made from `CART_IMAGE` (20_memory.md R71). -/
  cartRom : Memory
  /-- `WRAM_SIZE` (20_memory.md R63). -/
  wramSize : WramSize
  /-- The primary opcodes `ADMITTED_OPCODES` leaves out (46_system.md R307); the four pinned ones stay admitted whatever stands here. -/
  excludedPrimary : List Byte
  /-- The secondary opcodes `ADMITTED_OPCODES` leaves out (46_system.md R307). -/
  excludedSecondary : List Byte
deriving DecidableEq, Repr

/-- Every piece of state 10_state.md R20 lists, the launch parameters, and the count the last step returned. -/
structure State where
  /-- `A`, the high half of `AF` (R21). -/
  a : Byte
  /-- `F`, the low half of `AF`: Z N H C in bits 7 to 4, bits 3 to 0 plain storage (R26). -/
  f : Byte
  /-- `B`, the high half of `BC` (R21). -/
  b : Byte
  /-- `C`, the low half of `BC` (R21). -/
  c : Byte
  /-- `D`, the high half of `DE` (R21). -/
  d : Byte
  /-- `E`, the low half of `DE` (R21). -/
  e : Byte
  /-- `H`, the high half of `HL` (R21). -/
  h : Byte
  /-- `L`, the low half of `HL` (R21). -/
  l : Byte
  /-- `SP` (R21). -/
  sp : Word
  /-- `PC` (R21, R24). -/
  pc : Word
  /-- The interrupt master enable, written by `DI`, `EI`, `RETI` and read by nothing (R33). -/
  ime : Bool
  /-- The one-way overlay latch `boot_disabled` (R31). -/
  bootDisabled : Bool
  /-- Video RAM (R35). -/
  vram : Memory
  /-- Sprite attribute memory (R35). -/
  oam : Memory
  /-- Work RAM, `WRAM_SIZE` bytes (R35). -/
  wram : Memory
  /-- The I/O register block; offset 0x50 is the overlay disable register (R31, R35). -/
  io : Memory
  /-- High RAM (R35). -/
  hram : Memory
  /-- The interrupt-enable byte at 0xFFFF (R32). -/
  ie : Byte
  /-- The fault record, `none` while no fault has been raised (60_exceptions.md R324). -/
  fault : Option FaultReport
  /-- The model's own field (notes/assumptions/6.md): the cycle count the last step returned (00_scope.md R16), `none` where
  no step has returned one. Nothing reads it (70 R370). -/
  cycles : Option Byte
  /-- The launch parameters (00_scope.md R7). No step writes them (70 R353). -/
  launch : Launch
deriving DecidableEq, Repr

/-- Why a step stops. `wreck` is the state the fault leaves (60_exceptions.md R325): every effect before the raise, the fault
recorded, no cycle count. -/
inductive Fault where
  /-- `E1` (R320): raised by `HALT`, `STOP`, the eleven unassigned opcodes and every opcode left out of `ADMITTED_OPCODES`.
  The spec's own fault, so it is no departure; safe. -/
  | unimplementedOpcode (op : Byte) (pc : Word) (wreck : State)
  /-- `E2` (R321): raised by a byte write to 0xA000-0xBFFF. The spec's own fault, so it is no departure; safe. -/
  | unimplementedMemoryCapability (addr : Word) (value : Byte) (wreck : State)
  /-- Raised by `step` on a machine whose fault record is set: no further step is defined (R324). A stuck state; safe. -/
  | stuck (report : FaultReport)
deriving DecidableEq, Repr

/-- Why an instruction has no meaning. -/
inductive Refusal where
  /-- An instruction without a meaning yet, by its mnemonic; raised by no arm of this model. Safe. -/
  | notModelled (mnemonic : String)
deriving DecidableEq, Repr

/-- The launch parameters of the machine that `State.reset` is: an all-zero boot image and an empty cartridge image
(notes/assumptions/2.md), `WRAM_SIZE = 0x2000` (notes/assumptions/3.md), every opcode admitted (notes/assumptions/4.md). -/
def Launch.default : Launch :=
  { bootRom := [], cartRom := [], wramSize := .full, excludedPrimary := [], excludedSecondary := [] }

/-- The machine right after reset (10_state.md R40 to R42). The RAM stores, the I/O bytes other than 0x50 and `ie` are
`INIT_MEM`, which the spec leaves open; all zero here, DESIGN CHOICE (notes/assumptions/1.md). -/
def State.reset : State :=
  { a := 0, f := 0, b := 0, c := 0, d := 0, e := 0, h := 0, l := 0, sp := 0, pc := 0
    ime := false, bootDisabled := false
    vram := [], oam := [], wram := [], io := [], hram := [], ie := 0
    fault := none, cycles := none, launch := Launch.default }

end Sys2Proof.Machine
end

