-- ==== Sys2Proof/Machine/Ops.lean ====
section
/-! DEFINITION. The operations every meaning is built from: the MMU's read and write (20_memory.md), raising a fatal fault
(60_exceptions.md), sequencing, the stack primitives (41_load16_stack.md) and the advance of `PC`. -/

namespace Sys2Proof.Machine

/-- What one instruction answers. -/
abbrev Res := Host.Outcome State Fault Refusal

/-- The statement `k` performed after `r`: nothing after a raise is executed (00_scope.md R13, R14). -/
def andThen (r : Res) (k : State → Res) : Res :=
  match r with
  | .next s => k s
  | .fault w => .fault w
  | .refused w => .refused w

/-! ### Address decode -/

/-- The regions of the address map (20_memory.md R56). -/
inductive Region where
  | boot | rom | vram | xram | wram | echo | oam | unused | io | hram | ie
deriving DecidableEq, Repr

/-- `region(a)`, the first matching line of R56 winning. -/
def region (bootDisabled : Bool) (a : Word) : Region :=
  if a.toNat ≤ 0x00FF ∧ bootDisabled = false then .boot
  else if a.toNat ≤ 0x7FFF then .rom
  else if a.toNat ≤ 0x9FFF then .vram
  else if a.toNat ≤ 0xBFFF then .xram
  else if a.toNat ≤ 0xDFFF then .wram
  else if a.toNat ≤ 0xFDFF then .echo
  else if a.toNat ≤ 0xFE9F then .oam
  else if a.toNat ≤ 0xFEFF then .unused
  else if a.toNat ≤ 0xFF7F then .io
  else if a.toNat ≤ 0xFFFE then .hram
  else .ie

/-- The byte of a store that an address selects, or the window that has none. Two addresses alias exactly when they have one
place (20_memory.md R56, 70 R360). -/
inductive Place where
  | boot (offset : Nat)
  | rom (offset : Nat)
  | vram (offset : Nat)
  | xram
  | wram (offset : Nat)
  | oam (offset : Nat)
  | unused
  | io (offset : Nat)
  | hram (offset : Nat)
  | ie
deriving DecidableEq, Repr

/-- The place of an address: the table of R56, the work-RAM index reduced by `WRAM_SIZE` (R63, R64). -/
def placeOf (wramSize : WramSize) (bootDisabled : Bool) (a : Word) : Place :=
  match region bootDisabled a with
  | .boot => .boot a.toNat
  | .rom => .rom a.toNat
  | .vram => .vram (a.toNat - 0x8000)
  | .xram => .xram
  | .wram => .wram ((a.toNat - 0xC000) % wramSize.bytes)
  | .echo => .wram ((a.toNat - 0xE000) % wramSize.bytes)
  | .oam => .oam (a.toNat - 0xFE00)
  | .unused => .unused
  | .io => .io (a.toNat - 0xFF00)
  | .hram => .hram (a.toNat - 0xFF80)
  | .ie => .ie

/-- The place of an address in a state. -/
def State.place (s : State) (a : Word) : Place := placeOf s.launch.wramSize s.bootDisabled a

/-- The byte at a place: 0xFF where there is no store (R62, R66). -/
def State.readPlace (s : State) : Place → Byte
  | .boot n => s.launch.bootRom.get n
  | .rom n => s.launch.cartRom.get n
  | .vram n => s.vram.get n
  | .xram => 0xFF
  | .wram n => s.wram.get n
  | .oam n => s.oam.get n
  | .unused => 0xFF
  | .io n => s.io.get n
  | .hram n => s.hram.get n
  | .ie => s.ie

/-- `MMU.read(a)` (20_memory.md R52): total, and it changes no state. -/
def State.read (s : State) (a : Word) : Byte := s.readPlace (s.place a)

/-- The effect of storing `v` at a place: a no-op in ROM and in the unusable window (R58, R66); a nonzero byte stored at I/O
offset 0x50 sets the overlay latch (R68). The `xram` line is never performed by a write, which raises there first. -/
def State.storePlace (s : State) (p : Place) (v : Byte) : State :=
  match p with
  | .boot _ => s
  | .rom _ => s
  | .vram n => { s with vram := s.vram.set n v }
  | .xram => s
  | .wram n => { s with wram := s.wram.set n v }
  | .oam n => { s with oam := s.oam.set n v }
  | .unused => s
  | .io n => { s with io := s.io.set n v, bootDisabled := s.bootDisabled || (n == Config.overlayOffset && v != 0) }
  | .hram n => { s with hram := s.hram.set n v }
  | .ie => { s with ie := v }

/-- The effect of a byte write that does not raise. -/
def State.store (s : State) (a : Word) (v : Byte) : State := s.storePlace (s.place a) v

/-! ### Raising a fatal fault -/

/-- The state a fault leaves (60_exceptions.md R324, R325): the effects so far, the report recorded, no cycle count returned. -/
def State.wreck (s : State) (report : FaultReport) : State := { s with fault := some report, cycles := none }

/-- `raise report` (00_scope.md R13): the one way a fault begins. There is no trap entry: nothing is saved and control goes
nowhere (60_exceptions.md R326). -/
def raise (report : FaultReport) (s : State) : Res :=
  match report with
  | .unimplementedOpcode op pc => .fault (.unimplementedOpcode op pc (s.wreck report))
  | .unimplementedMemoryCapability addr value => .fault (.unimplementedMemoryCapability addr value (s.wreck report))

/-! ### The memory primitives of 00_scope.md R12 -/

/-- `MemWrite(a, 1, v)`, that is `MMU.write(a, v)` (20_memory.md R53). -/
def write (a : Word) (v : Byte) (s : State) : Res :=
  match s.place a with
  | .xram => raise (.unimplementedMemoryCapability a v) s
  | p => .next (s.storePlace p v)

/-- `MemRead(a, 2)`, that is `read_word(a)` (20_memory.md R54). -/
def State.readWord (s : State) (a : Word) : Word := word (s.read (a + 1)) (s.read a)

/-- `MemWrite(a, 2, v)`, that is `write_word(a, v)`: the high byte first (20_memory.md R55). -/
def writeWord (a : Word) (v : Word) (s : State) : Res :=
  andThen (write (a + 1) (hi v) s) fun t => write a (lo v) t

/-- `Push16(v)` (41_load16_stack.md R173). -/
def push16 (v : Word) (s : State) : Res :=
  andThen (write (s.sp - 1) (hi v) s) fun t =>
    andThen (write (t.sp - 2) (lo v) t) fun u => .next { u with sp := u.sp - 2 }

/-- The value `Pop16()` returns (41_load16_stack.md R174). -/
def State.popped (s : State) : Word := s.readWord s.sp

/-- The state `Pop16()` leaves: `SP <- SP + 2` (R174). -/
def State.dropTop (s : State) : State := { s with sp := s.sp + 2 }

/-! ### The end of an instruction -/

/-- `PC <- target; cycles <- n`. -/
def State.goto (s : State) (target : Word) (n : Byte) : State := { s with pc := target, cycles := some n }

/-- `PC <- PC + len; cycles <- n` (10_state.md R24). -/
def State.advance (s : State) (len : Word) (n : Byte) : State := s.goto (s.pc + len) n

/-- An instruction of `len` bytes that ends in `s` before the advance and costs `n`. -/
def done (len : Word) (n : Byte) (s : State) : Res := .next (s.advance len n)

/-- A control transfer to `target` that costs `n`. -/
def jump (target : Word) (n : Byte) (s : State) : Res := .next (s.goto target n)

end Sys2Proof.Machine
end

