-- ==== Sys2Proof/Syntax.lean ====
section
/-! DEFINITION. The instructions: one constructor per row of spec/opcode_table.json (30_encoding.md R110, R111, R119), the
rows with an operand of their own first, each group in the table's order. An operand the opcode fixes is part of the constructor; an operand byte or word is its argument. -/

namespace Sys2Proof

/-- The 8-bit registers an operand code can name: codes 0 to 5 and 7 (30_encoding.md R104). -/
inductive Reg8 where
  | b | c | d | e | h | l | a
deriving DecidableEq, Repr

/-- An 8-bit operand `r8[i]`: a register, or for code 6 the memory byte at `HL` (30_encoding.md R104). -/
inductive R8 where
  | reg (r : Reg8)
  | atHL
deriving DecidableEq, Repr

/-- The pair codes `rp` (30_encoding.md R105). -/
inductive Pair where
  | bc | de | hl | sp
deriving DecidableEq, Repr

/-- The pair codes `rp2` of `PUSH` and `POP` (30_encoding.md R105). -/
inductive StackPair where
  | bc | de | hl | af
deriving DecidableEq, Repr

/-- The condition codes `cc` (30_encoding.md R106). -/
inductive Cond where
  | nz | z | nc | c
deriving DecidableEq, Repr

/-- The selector `alu[y]` of the two-operand accumulator operations (30_encoding.md R107). -/
inductive AluOp where
  | add | adc | sub | sbc | and | xor | or | cp
deriving DecidableEq, Repr

/-- The instructions. Operands: `n8`, `a8` unsigned bytes, `e8` a signed displacement byte, `n16`, `a16` words (30_encoding.md
R101), `x` an operand `r8[z]` and `b` a bit number (R108). -/
inductive Instr where
  /-- `LD BC,n16` (R170). -/
  | ldBC_n16 (n16 : Word)
  /-- `LD B,n8` (R133). -/
  | ldB_n8 (n8 : Byte)
  /-- `LD (a16),SP` (R171). -/
  | ldA16_SP (a16 : Word)
  /-- `LD C,n8` (R133). -/
  | ldC_n8 (n8 : Byte)
  /-- `LD DE,n16` (R170). -/
  | ldDE_n16 (n16 : Word)
  /-- `LD D,n8` (R133). -/
  | ldD_n8 (n8 : Byte)
  /-- `JR e8` (R273). -/
  | jr (e8 : Byte)
  /-- `LD E,n8` (R133). -/
  | ldE_n8 (n8 : Byte)
  /-- `JR NZ,e8` (R274). -/
  | jrNZ (e8 : Byte)
  /-- `LD HL,n16` (R170). -/
  | ldHL_n16 (n16 : Word)
  /-- `LD H,n8` (R133). -/
  | ldH_n8 (n8 : Byte)
  /-- `JR Z,e8` (R274). -/
  | jrZ (e8 : Byte)
  /-- `LD L,n8` (R133). -/
  | ldL_n8 (n8 : Byte)
  /-- `JR NC,e8` (R274). -/
  | jrNC (e8 : Byte)
  /-- `LD SP,n16` (R170). -/
  | ldSP_n16 (n16 : Word)
  /-- `LD (HL),n8` (R134). -/
  | ldAtHL_n8 (n8 : Byte)
  /-- `JR C,e8` (R274). -/
  | jrC (e8 : Byte)
  /-- `LD A,n8` (R133). -/
  | ldA_n8 (n8 : Byte)
  /-- `JP NZ,a16` (R271). -/
  | jpNZ (a16 : Word)
  /-- `JP a16` (R270). -/
  | jp (a16 : Word)
  /-- `CALL NZ,a16` (R281). -/
  | callNZ (a16 : Word)
  /-- `ADD A,n8` (R198). -/
  | addA_n8 (n8 : Byte)
  /-- `JP Z,a16` (R271). -/
  | jpZ (a16 : Word)
  /-- `CALL Z,a16` (R281). -/
  | callZ (a16 : Word)
  /-- `CALL a16` (R280). -/
  | call (a16 : Word)
  /-- `ADC A,n8` (R199). -/
  | adcA_n8 (n8 : Byte)
  /-- `JP NC,a16` (R271). -/
  | jpNC (a16 : Word)
  /-- `CALL NC,a16` (R281). -/
  | callNC (a16 : Word)
  /-- `SUB n8` (R200). -/
  | sub_n8 (n8 : Byte)
  /-- `JP C,a16` (R271). -/
  | jpC (a16 : Word)
  /-- `CALL C,a16` (R281). -/
  | callC (a16 : Word)
  /-- `SBC A,n8` (R201). -/
  | sbcA_n8 (n8 : Byte)
  /-- `LDH (a8),A` (R150). -/
  | ldhA8_A (a8 : Byte)
  /-- `AND n8` (R202). -/
  | and_n8 (n8 : Byte)
  /-- `ADD SP,e8` (R233). -/
  | addSP_e8 (e8 : Byte)
  /-- `LD (a16),A` (R143). -/
  | ldA16_A (a16 : Word)
  /-- `XOR n8` (R203). -/
  | xor_n8 (n8 : Byte)
  /-- `LDH A,(a8)` (R151). -/
  | ldhA_A8 (a8 : Byte)
  /-- `OR n8` (R204). -/
  | or_n8 (n8 : Byte)
  /-- `LD HL,SP+e8` (R175). -/
  | ldHL_SPe8 (e8 : Byte)
  /-- `LD A,(a16)` (R144). -/
  | ldA_A16 (a16 : Word)
  /-- `CP n8` (R205). -/
  | cp_n8 (n8 : Byte)
  /-- `RLC r8` (R244). -/
  | rlc (x : R8)
  /-- `RRC r8` (R245). -/
  | rrc (x : R8)
  /-- `RL r8` (R246). -/
  | rl (x : R8)
  /-- `RR r8` (R247). -/
  | rr (x : R8)
  /-- `SLA r8` (R248). -/
  | sla (x : R8)
  /-- `SRA r8` (R249). -/
  | sra (x : R8)
  /-- `SWAP r8` (R250). -/
  | swap (x : R8)
  /-- `SRL r8` (R251). -/
  | srl (x : R8)
  /-- `BIT b,r8` (R252). -/
  | bit (b : Fin 8) (x : R8)
  /-- `RES b,r8` (R253). -/
  | res (b : Fin 8) (x : R8)
  /-- `SET b,r8` (R254). -/
  | set (b : Fin 8) (x : R8)
  /-- `NOP` (R300). -/
  | nop
  /-- `LD (BC),A` (R137). -/
  | ldAtBC_A
  /-- `INC BC` (R230). -/
  | incBC
  /-- `INC B` (R206). -/
  | incB
  /-- `DEC B` (R208). -/
  | decB
  /-- `RLCA` (R240). -/
  | rlca
  /-- `ADD HL,BC` (R232). -/
  | addHL_BC
  /-- `LD A,(BC)` (R135). -/
  | ldA_AtBC
  /-- `DEC BC` (R231). -/
  | decBC
  /-- `INC C` (R206). -/
  | incC
  /-- `DEC C` (R208). -/
  | decC
  /-- `RRCA` (R241). -/
  | rrca
  /-- `STOP` (R302). -/
  | stop
  /-- `LD (DE),A` (R138). -/
  | ldAtDE_A
  /-- `INC DE` (R230). -/
  | incDE
  /-- `INC D` (R206). -/
  | incD
  /-- `DEC D` (R208). -/
  | decD
  /-- `RLA` (R242). -/
  | rla
  /-- `ADD HL,DE` (R232). -/
  | addHL_DE
  /-- `LD A,(DE)` (R136). -/
  | ldA_AtDE
  /-- `DEC DE` (R231). -/
  | decDE
  /-- `INC E` (R206). -/
  | incE
  /-- `DEC E` (R208). -/
  | decE
  /-- `RRA` (R243). -/
  | rra
  /-- `LD (HL+),A` (R139). -/
  | ldAtHLInc_A
  /-- `INC HL` (R230). -/
  | incHL
  /-- `INC H` (R206). -/
  | incH
  /-- `DEC H` (R208). -/
  | decH
  /-- `DAA` (R210). -/
  | daa
  /-- `ADD HL,HL` (R232). -/
  | addHL_HL
  /-- `LD A,(HL+)` (R141). -/
  | ldA_AtHLInc
  /-- `DEC HL` (R231). -/
  | decHL
  /-- `INC L` (R206). -/
  | incL
  /-- `DEC L` (R208). -/
  | decL
  /-- `CPL` (R211). -/
  | cpl
  /-- `LD (HL-),A` (R140). -/
  | ldAtHLDec_A
  /-- `INC SP` (R230). -/
  | incSP
  /-- `INC (HL)` (R207). -/
  | incAtHL
  /-- `DEC (HL)` (R209). -/
  | decAtHL
  /-- `SCF` (R212). -/
  | scf
  /-- `ADD HL,SP` (R232). -/
  | addHL_SP
  /-- `LD A,(HL-)` (R142). -/
  | ldA_AtHLDec
  /-- `DEC SP` (R231). -/
  | decSP
  /-- `INC A` (R206). -/
  | incA
  /-- `DEC A` (R208). -/
  | decA
  /-- `CCF` (R213). -/
  | ccf
  /-- `LD B,B` (R130). -/
  | ldB_B
  /-- `LD B,C` (R130). -/
  | ldB_C
  /-- `LD B,D` (R130). -/
  | ldB_D
  /-- `LD B,E` (R130). -/
  | ldB_E
  /-- `LD B,H` (R130). -/
  | ldB_H
  /-- `LD B,L` (R130). -/
  | ldB_L
  /-- `LD B,(HL)` (R131). -/
  | ldB_AtHL
  /-- `LD B,A` (R130). -/
  | ldB_A
  /-- `LD C,B` (R130). -/
  | ldC_B
  /-- `LD C,C` (R130). -/
  | ldC_C
  /-- `LD C,D` (R130). -/
  | ldC_D
  /-- `LD C,E` (R130). -/
  | ldC_E
  /-- `LD C,H` (R130). -/
  | ldC_H
  /-- `LD C,L` (R130). -/
  | ldC_L
  /-- `LD C,(HL)` (R131). -/
  | ldC_AtHL
  /-- `LD C,A` (R130). -/
  | ldC_A
  /-- `LD D,B` (R130). -/
  | ldD_B
  /-- `LD D,C` (R130). -/
  | ldD_C
  /-- `LD D,D` (R130). -/
  | ldD_D
  /-- `LD D,E` (R130). -/
  | ldD_E
  /-- `LD D,H` (R130). -/
  | ldD_H
  /-- `LD D,L` (R130). -/
  | ldD_L
  /-- `LD D,(HL)` (R131). -/
  | ldD_AtHL
  /-- `LD D,A` (R130). -/
  | ldD_A
  /-- `LD E,B` (R130). -/
  | ldE_B
  /-- `LD E,C` (R130). -/
  | ldE_C
  /-- `LD E,D` (R130). -/
  | ldE_D
  /-- `LD E,E` (R130). -/
  | ldE_E
  /-- `LD E,H` (R130). -/
  | ldE_H
  /-- `LD E,L` (R130). -/
  | ldE_L
  /-- `LD E,(HL)` (R131). -/
  | ldE_AtHL
  /-- `LD E,A` (R130). -/
  | ldE_A
  /-- `LD H,B` (R130). -/
  | ldH_B
  /-- `LD H,C` (R130). -/
  | ldH_C
  /-- `LD H,D` (R130). -/
  | ldH_D
  /-- `LD H,E` (R130). -/
  | ldH_E
  /-- `LD H,H` (R130). -/
  | ldH_H
  /-- `LD H,L` (R130). -/
  | ldH_L
  /-- `LD H,(HL)` (R131). -/
  | ldH_AtHL
  /-- `LD H,A` (R130). -/
  | ldH_A
  /-- `LD L,B` (R130). -/
  | ldL_B
  /-- `LD L,C` (R130). -/
  | ldL_C
  /-- `LD L,D` (R130). -/
  | ldL_D
  /-- `LD L,E` (R130). -/
  | ldL_E
  /-- `LD L,H` (R130). -/
  | ldL_H
  /-- `LD L,L` (R130). -/
  | ldL_L
  /-- `LD L,(HL)` (R131). -/
  | ldL_AtHL
  /-- `LD L,A` (R130). -/
  | ldL_A
  /-- `LD (HL),B` (R132). -/
  | ldAtHL_B
  /-- `LD (HL),C` (R132). -/
  | ldAtHL_C
  /-- `LD (HL),D` (R132). -/
  | ldAtHL_D
  /-- `LD (HL),E` (R132). -/
  | ldAtHL_E
  /-- `LD (HL),H` (R132). -/
  | ldAtHL_H
  /-- `LD (HL),L` (R132). -/
  | ldAtHL_L
  /-- `HALT` (R301). -/
  | halt
  /-- `LD (HL),A` (R132). -/
  | ldAtHL_A
  /-- `LD A,B` (R130). -/
  | ldA_B
  /-- `LD A,C` (R130). -/
  | ldA_C
  /-- `LD A,D` (R130). -/
  | ldA_D
  /-- `LD A,E` (R130). -/
  | ldA_E
  /-- `LD A,H` (R130). -/
  | ldA_H
  /-- `LD A,L` (R130). -/
  | ldA_L
  /-- `LD A,(HL)` (R131). -/
  | ldA_AtHL
  /-- `LD A,A` (R130). -/
  | ldA_A
  /-- `ADD A,B` (R190). -/
  | addA_B
  /-- `ADD A,C` (R190). -/
  | addA_C
  /-- `ADD A,D` (R190). -/
  | addA_D
  /-- `ADD A,E` (R190). -/
  | addA_E
  /-- `ADD A,H` (R190). -/
  | addA_H
  /-- `ADD A,L` (R190). -/
  | addA_L
  /-- `ADD A,(HL)` (R190). -/
  | addA_AtHL
  /-- `ADD A,A` (R190). -/
  | addA_A
  /-- `ADC A,B` (R191). -/
  | adcA_B
  /-- `ADC A,C` (R191). -/
  | adcA_C
  /-- `ADC A,D` (R191). -/
  | adcA_D
  /-- `ADC A,E` (R191). -/
  | adcA_E
  /-- `ADC A,H` (R191). -/
  | adcA_H
  /-- `ADC A,L` (R191). -/
  | adcA_L
  /-- `ADC A,(HL)` (R191). -/
  | adcA_AtHL
  /-- `ADC A,A` (R191). -/
  | adcA_A
  /-- `SUB B` (R192). -/
  | subB
  /-- `SUB C` (R192). -/
  | subC
  /-- `SUB D` (R192). -/
  | subD
  /-- `SUB E` (R192). -/
  | subE
  /-- `SUB H` (R192). -/
  | subH
  /-- `SUB L` (R192). -/
  | subL
  /-- `SUB (HL)` (R192). -/
  | subAtHL
  /-- `SUB A` (R192). -/
  | subA
  /-- `SBC A,B` (R193). -/
  | sbcA_B
  /-- `SBC A,C` (R193). -/
  | sbcA_C
  /-- `SBC A,D` (R193). -/
  | sbcA_D
  /-- `SBC A,E` (R193). -/
  | sbcA_E
  /-- `SBC A,H` (R193). -/
  | sbcA_H
  /-- `SBC A,L` (R193). -/
  | sbcA_L
  /-- `SBC A,(HL)` (R193). -/
  | sbcA_AtHL
  /-- `SBC A,A` (R193). -/
  | sbcA_A
  /-- `AND B` (R194). -/
  | andB
  /-- `AND C` (R194). -/
  | andC
  /-- `AND D` (R194). -/
  | andD
  /-- `AND E` (R194). -/
  | andE
  /-- `AND H` (R194). -/
  | andH
  /-- `AND L` (R194). -/
  | andL
  /-- `AND (HL)` (R194). -/
  | andAtHL
  /-- `AND A` (R194). -/
  | andA
  /-- `XOR B` (R195). -/
  | xorB
  /-- `XOR C` (R195). -/
  | xorC
  /-- `XOR D` (R195). -/
  | xorD
  /-- `XOR E` (R195). -/
  | xorE
  /-- `XOR H` (R195). -/
  | xorH
  /-- `XOR L` (R195). -/
  | xorL
  /-- `XOR (HL)` (R195). -/
  | xorAtHL
  /-- `XOR A` (R195). -/
  | xorA
  /-- `OR B` (R196). -/
  | orB
  /-- `OR C` (R196). -/
  | orC
  /-- `OR D` (R196). -/
  | orD
  /-- `OR E` (R196). -/
  | orE
  /-- `OR H` (R196). -/
  | orH
  /-- `OR L` (R196). -/
  | orL
  /-- `OR (HL)` (R196). -/
  | orAtHL
  /-- `OR A` (R196). -/
  | orA
  /-- `CP B` (R197). -/
  | cpB
  /-- `CP C` (R197). -/
  | cpC
  /-- `CP D` (R197). -/
  | cpD
  /-- `CP E` (R197). -/
  | cpE
  /-- `CP H` (R197). -/
  | cpH
  /-- `CP L` (R197). -/
  | cpL
  /-- `CP (HL)` (R197). -/
  | cpAtHL
  /-- `CP A` (R197). -/
  | cpA
  /-- `RET NZ` (R283). -/
  | retNZ
  /-- `POP BC` (R179). -/
  | popBC
  /-- `PUSH BC` (R178). -/
  | pushBC
  /-- `RST 0x00` (R286). -/
  | rst00
  /-- `RET Z` (R283). -/
  | retZ
  /-- `RET` (R282). -/
  | ret
  /-- The prefix byte 0xCB by itself (R305): the row of the primary table; with `op2` behind it the bytes are one of the secondary instructions below. -/
  | prefixCB
  /-- `RST 0x08` (R286). -/
  | rst08
  /-- `RET NC` (R283). -/
  | retNC
  /-- `POP DE` (R179). -/
  | popDE
  /-- 0xD3, one of the eleven unassigned opcodes (R306). -/
  | undefinedD3
  /-- `PUSH DE` (R178). -/
  | pushDE
  /-- `RST 0x10` (R286). -/
  | rst10
  /-- `RET C` (R283). -/
  | retC
  /-- `RETI` (R284). -/
  | reti
  /-- 0xDB, one of the eleven unassigned opcodes (R306). -/
  | undefinedDB
  /-- 0xDD, one of the eleven unassigned opcodes (R306). -/
  | undefinedDD
  /-- `RST 0x18` (R286). -/
  | rst18
  /-- `POP HL` (R179). -/
  | popHL
  /-- `LD (C),A` (R152). -/
  | ldAtC_A
  /-- 0xE3, one of the eleven unassigned opcodes (R306). -/
  | undefinedE3
  /-- 0xE4, one of the eleven unassigned opcodes (R306). -/
  | undefinedE4
  /-- `PUSH HL` (R178). -/
  | pushHL
  /-- `RST 0x20` (R286). -/
  | rst20
  /-- `JP HL` (R272). -/
  | jpHL
  /-- 0xEB, one of the eleven unassigned opcodes (R306). -/
  | undefinedEB
  /-- 0xEC, one of the eleven unassigned opcodes (R306). -/
  | undefinedEC
  /-- 0xED, one of the eleven unassigned opcodes (R306). -/
  | undefinedED
  /-- `RST 0x28` (R286). -/
  | rst28
  /-- `POP AF` (R179). -/
  | popAF
  /-- `LD A,(C)` (R153). -/
  | ldA_AtC
  /-- `DI` (R303). -/
  | di
  /-- 0xF4, one of the eleven unassigned opcodes (R306). -/
  | undefinedF4
  /-- `PUSH AF` (R178). -/
  | pushAF
  /-- `RST 0x30` (R286). -/
  | rst30
  /-- `LD SP,HL` (R172). -/
  | ldSP_HL
  /-- `EI` (R304). -/
  | ei
  /-- 0xFC, one of the eleven unassigned opcodes (R306). -/
  | undefinedFC
  /-- 0xFD, one of the eleven unassigned opcodes (R306). -/
  | undefinedFD
  /-- `RST 0x38` (R286). -/
  | rst38
deriving DecidableEq, Repr

end Sys2Proof
end

