-- ==== Sys2Proof/Machine/Operands.lean ====
section
/-! DEFINITION. The operand forms: register halves and pairs as one storage (10_state.md R21), `r8[i]` with the memory byte at
`HL` for code 6 (30_encoding.md R104), the pair codes (R105) and the high page (40_load8.md R150). -/

namespace Sys2Proof.Machine

/-- `AF = A ++ F` (R21). -/
def State.af (s : State) : Word := word s.a s.f
/-- `BC = B ++ C` (R21). -/
def State.bc (s : State) : Word := word s.b s.c
/-- `DE = D ++ E` (R21). -/
def State.de (s : State) : Word := word s.d s.e
/-- `HL = H ++ L` (R21). -/
def State.hl (s : State) : Word := word s.h s.l

/-- An 8-bit register (30_encoding.md R104). -/
def State.reg (s : State) : Reg8 → Byte
  | .b => s.b
  | .c => s.c
  | .d => s.d
  | .e => s.e
  | .h => s.h
  | .l => s.l
  | .a => s.a

/-- `r8[i] <- v` for a register. -/
def State.setReg (s : State) (r : Reg8) (v : Byte) : State :=
  match r with
  | .b => { s with b := v }
  | .c => { s with c := v }
  | .d => { s with d := v }
  | .e => { s with e := v }
  | .h => { s with h := v }
  | .l => { s with l := v }
  | .a => { s with a := v }

/-- `rp[p]` (R105). -/
def State.pair (s : State) : Pair → Word
  | .bc => s.bc
  | .de => s.de
  | .hl => s.hl
  | .sp => s.sp

/-- `rp[p] <- v`: both halves of a pair are written (R21). -/
def State.setPair (s : State) (p : Pair) (v : Word) : State :=
  match p with
  | .bc => { s with b := hi v, c := lo v }
  | .de => { s with d := hi v, e := lo v }
  | .hl => { s with h := hi v, l := lo v }
  | .sp => { s with sp := v }

/-- `rp2[p]` (R105). -/
def State.stackPair (s : State) : StackPair → Word
  | .bc => s.bc
  | .de => s.de
  | .hl => s.hl
  | .af => s.af

/-- `rp2[p] <- v`; for `AF` all eight bits of `F` are written (41_load16_stack.md R179, 10_state.md R26). -/
def State.setStackPair (s : State) (p : StackPair) (v : Word) : State :=
  match p with
  | .bc => { s with b := hi v, c := lo v }
  | .de => { s with d := hi v, e := lo v }
  | .hl => { s with h := hi v, l := lo v }
  | .af => { s with a := hi v, f := lo v }

/-- `r8[i]` read: code 6 is `MemRead(HL, 1)` (R104). -/
def State.readR8 (s : State) : R8 → Byte
  | .reg r => s.reg r
  | .atHL => s.read s.hl

/-- `r8[i] <- v`: code 6 is `MemWrite(HL, 1, v)` (R104), which may raise. -/
def writeR8 (x : R8) (v : Byte) (s : State) : Res :=
  match x with
  | .reg r => .next (s.setReg r v)
  | .atHL => write s.hl v s

/-- `0xFF00 + zext_16(n)` (40_load8.md R150, R152). -/
def highPage (n : Byte) : Word := Config.highPage + zext16 n

end Sys2Proof.Machine
end

