-- ==== Sys2Proof/Machine/Flags.lean ====
section
/-! DEFINITION. The four flags in bits 7 to 4 of `F` (00_scope.md R11, 10_state.md R26, R27), the ALU primitives and every flag
computation of the instruction set, each from the instruction's own operands (70 R357). -/

namespace Sys2Proof.Machine

/-- `F.Z = F[7]` (R11). -/
def State.flagZ (s : State) : Bool := s.f.getLsbD 7
/-- `F.N = F[6]` (R11). -/
def State.flagN (s : State) : Bool := s.f.getLsbD 6
/-- `F.H = F[5]` (R11). -/
def State.flagH (s : State) : Bool := s.f.getLsbD 5
/-- `F.C = F[4]` (R11). -/
def State.flagC (s : State) : Bool := s.f.getLsbD 4

/-- `F` with the four flags given and bits 3 to 0 kept: no flag assignment writes them (R11, 10_state.md R26). -/
def packFlags (f : Byte) (z n h c : Bool) : Byte :=
  BitVec.ofBool z ++ BitVec.ofBool n ++ BitVec.ofBool h ++ BitVec.ofBool c ++ f.extractLsb' 0 4

/-- `F.Z <- z; F.N <- n; F.H <- h; F.C <- c`. A flag an instruction leaves alone is passed as it was. -/
def State.setFlags (s : State) (z n h c : Bool) : State := { s with f := packFlags s.f z n h c }

/-- `cond(cc)` (00_scope.md R15). -/
def State.cond (s : State) : Cond → Bool
  | .nz => !s.flagZ
  | .z => s.flagZ
  | .nc => !s.flagC
  | .c => s.flagC

/-- A result with its half-carry and carry. -/
structure Sum8 where
  r : Byte
  h : Bool
  c : Bool
deriving DecidableEq, Repr

/-- `Add8(a, b, cin)` (42_alu8.md R220). -/
def add8 (a b : Byte) (cin : Bool) : Sum8 :=
  let s := a.toNat + b.toNat + cin.toNat
  { r := BitVec.ofNat 8 s
    h := decide (a.toNat % 16 + b.toNat % 16 + cin.toNat > 0x0F)
    c := decide (s > 0xFF) }

/-- `Sub8(a, b, cin)` (42_alu8.md R221). -/
def sub8 (a b : Byte) (cin : Bool) : Sum8 :=
  let d : Int := (a.toNat : Int) - b.toNat - cin.toNat
  { r := BitVec.ofInt 8 d
    h := decide (a.toNat % 16 < b.toNat % 16 + cin.toNat)
    c := decide (a.toNat < b.toNat + cin.toNat) }

/-- A rotated or shifted byte and the bit that left it. -/
structure Shifted where
  r : Byte
  c : Bool
deriving DecidableEq, Repr

/-- `v[6:0] ++ v[7]`, bit 7 out (44_rotate_bit.md R240, R244). -/
def rotateLeft (v : Byte) : Shifted := { r := v.extractLsb' 0 7 ++ v.extractLsb' 7 1, c := v.getLsbD 7 }
/-- `v[0] ++ v[7:1]`, bit 0 out (R241, R245). -/
def rotateRight (v : Byte) : Shifted := { r := v.extractLsb' 0 1 ++ v.extractLsb' 1 7, c := v.getLsbD 0 }
/-- `v[6:0] ++ C`, bit 7 out (R242, R246). -/
def rotateLeftThrough (v : Byte) (carry : Bool) : Shifted :=
  { r := v.extractLsb' 0 7 ++ BitVec.ofBool carry, c := v.getLsbD 7 }
/-- `C ++ v[7:1]`, bit 0 out (R243, R247). -/
def rotateRightThrough (v : Byte) (carry : Bool) : Shifted :=
  { r := BitVec.ofBool carry ++ v.extractLsb' 1 7, c := v.getLsbD 0 }
/-- `v[6:0] ++ 0`, bit 7 out (R248). -/
def shiftLeft (v : Byte) : Shifted := { r := v.extractLsb' 0 7 ++ (0 : BitVec 1), c := v.getLsbD 7 }
/-- `v[7] ++ v[7:1]`, bit 0 out (R249). -/
def shiftRightArithmetic (v : Byte) : Shifted := { r := v.extractLsb' 7 1 ++ v.extractLsb' 1 7, c := v.getLsbD 0 }
/-- `v[3:0] ++ v[7:4]`, carry 0 (R250). -/
def swapNibbles (v : Byte) : Shifted := { r := v.extractLsb' 0 4 ++ v.extractLsb' 4 4, c := false }
/-- `0 ++ v[7:1]`, bit 0 out (R251). -/
def shiftRightLogical (v : Byte) : Shifted := { r := (0 : BitVec 1) ++ v.extractLsb' 1 7, c := v.getLsbD 0 }

/-- The half-carry of `ADD HL,rp`: out of bit 11 (43_alu16.md R232). -/
def halfCarry16 (a b : Word) : Bool := decide (a.toNat % 0x1000 + b.toNat % 0x1000 > 0x0FFF)
/-- The carry of `ADD HL,rp`: out of bit 15 (R232). -/
def carry16 (a b : Word) : Bool := decide (a.toNat + b.toNat > 0xFFFF)
/-- The half-carry of `SP + e8`: out of bit 3 of the low byte and the raw displacement (R233). -/
def halfCarrySp (sp : Word) (e8 : Byte) : Bool := decide (sp.toNat % 0x10 + e8.toNat % 0x10 > 0x0F)
/-- The carry of `SP + e8`: out of bit 7 of the low byte and the raw displacement (R233). -/
def carrySp (sp : Word) (e8 : Byte) : Bool := decide (sp.toNat % 0x100 + e8.toNat > 0xFF)

/-- The flags of `ADD SP,e8` and `LD HL,SP+e8`: `0 0 h c` (R233, 41_load16_stack.md R175). -/
def State.setSpFlags (s : State) (e8 : Byte) : State :=
  s.setFlags false false (halfCarrySp s.sp e8) (carrySp s.sp e8)

end Sys2Proof.Machine
end

