-- ==== Sys2Proof/Machine/Alu16.lean ====
section
/-! DEFINITION. 16-bit arithmetic instructions (spec/43_alu16.md). -/

namespace Sys2Proof.Machine

/-- `HL <- HL + v` and the flags `- 0 * *`, both operands being the old values (R232). -/
def addHL (v : Word) (s : State) : State :=
  (s.setFlags s.flagZ false (halfCarry16 s.hl v) (carry16 s.hl v)).setPair .hl (s.hl + v)

/-- `INC BC` (R230). -/
def execIncBC (s : State) : Res := done 1 8 (s.setPair .bc (s.pair .bc + 1))

/-- `ADD HL,BC` (R232). -/
def execAddHL_BC (s : State) : Res := done 1 8 (addHL (s.pair .bc) s)

/-- `DEC BC` (R231). -/
def execDecBC (s : State) : Res := done 1 8 (s.setPair .bc (s.pair .bc - 1))

/-- `INC DE` (R230). -/
def execIncDE (s : State) : Res := done 1 8 (s.setPair .de (s.pair .de + 1))

/-- `ADD HL,DE` (R232). -/
def execAddHL_DE (s : State) : Res := done 1 8 (addHL (s.pair .de) s)

/-- `DEC DE` (R231). -/
def execDecDE (s : State) : Res := done 1 8 (s.setPair .de (s.pair .de - 1))

/-- `INC HL` (R230). -/
def execIncHL (s : State) : Res := done 1 8 (s.setPair .hl (s.pair .hl + 1))

/-- `ADD HL,HL` (R232). -/
def execAddHL_HL (s : State) : Res := done 1 8 (addHL (s.pair .hl) s)

/-- `DEC HL` (R231). -/
def execDecHL (s : State) : Res := done 1 8 (s.setPair .hl (s.pair .hl - 1))

/-- `INC SP` (R230). -/
def execIncSP (s : State) : Res := done 1 8 (s.setPair .sp (s.pair .sp + 1))

/-- `ADD HL,SP` (R232). -/
def execAddHL_SP (s : State) : Res := done 1 8 (addHL (s.pair .sp) s)

/-- `DEC SP` (R231). -/
def execDecSP (s : State) : Res := done 1 8 (s.setPair .sp (s.pair .sp - 1))

/-- `ADD SP,e8` (R233). -/
def execAddSP_e8 (e8 : Byte) (s : State) : Res := done 2 16 { s.setSpFlags e8 with sp := s.sp + sext16 e8 }

end Sys2Proof.Machine
end

