-- ==== Sys2Proof/Machine/Alu8.lean ====
section
/-! DEFINITION. 8-bit arithmetic and logic instructions (spec/42_alu8.md). -/

namespace Sys2Proof.Machine

/-- `(r, h, c) <- Add8(A, v, cin); A <- r` and the flags `* 0 * *` (R190, R191). -/
def addA (v : Byte) (cin : Bool) (s : State) : State :=
  let x := add8 s.a v cin
  { s.setFlags (x.r == 0) false x.h x.c with a := x.r }

/-- `(r, h, c) <- Sub8(A, v, cin); A <- r` and the flags `* 1 * *` (R192, R193). -/
def subA (v : Byte) (cin : Bool) (s : State) : State :=
  let x := sub8 s.a v cin
  { s.setFlags (x.r == 0) true x.h x.c with a := x.r }

/-- `A <- A and v`, flags `* 0 1 0` (R194). -/
def andA (v : Byte) (s : State) : State := { s.setFlags (s.a &&& v == 0) false true false with a := s.a &&& v }

/-- `A <- A xor v`, flags `* 0 0 0` (R195). -/
def xorA (v : Byte) (s : State) : State := { s.setFlags (s.a ^^^ v == 0) false false false with a := s.a ^^^ v }

/-- `A <- A or v`, flags `* 0 0 0` (R196). -/
def orA (v : Byte) (s : State) : State := { s.setFlags (s.a ||| v == 0) false false false with a := s.a ||| v }

/-- The subtraction of R197: the flags of `Sub8(A, v, 0)`, `A` not written. -/
def compareA (v : Byte) (s : State) : State :=
  let x := sub8 s.a v false
  s.setFlags (x.r == 0) true x.h x.c

/-- The flags of an increment of `a`: `* 0 * -` (R206). -/
def State.incFlags (s : State) (a : Byte) : State :=
  s.setFlags (a + 1 == 0) false (a.toNat % 16 == 0xF) s.flagC

/-- The flags of a decrement of `a`: `* 1 * -` (R208). -/
def State.decFlags (s : State) (a : Byte) : State :=
  s.setFlags (a - 1 == 0) true (a.toNat % 16 == 0x0) s.flagC

/-- `INC r8` on a register (R206). -/
def incRegister (r : Reg8) (s : State) : Res := done 1 4 ((s.incFlags (s.reg r)).setReg r (s.reg r + 1))

/-- `DEC r8` on a register (R208). -/
def decRegister (r : Reg8) (s : State) : Res := done 1 4 ((s.decFlags (s.reg r)).setReg r (s.reg r - 1))

/-- `INC (HL)`: the flags are written before the memory byte (R207). -/
def incMemory (s : State) : Res :=
  let a := s.read s.hl
  andThen (write s.hl (a + 1) (s.incFlags a)) fun t => done 1 12 t

/-- `DEC (HL)`: the flags are written before the memory byte (R209). -/
def decMemory (s : State) : Res :=
  let a := s.read s.hl
  andThen (write s.hl (a - 1) (s.decFlags a)) fun t => done 1 12 t

/-- The adjustment of `DAA` after an addition: 0x06 and 0x60, each tested on the value before any adjustment (R210). -/
def adjustAdd (a : Byte) (h c : Bool) : Byte :=
  (if h ∨ a.toNat % 16 > 0x9 then 0x06 else 0x00) ||| (if c ∨ a.toNat > 0x99 then 0x60 else 0x00)

/-- The adjustment of `DAA` after a subtraction (R210). -/
def adjustSub (h c : Bool) : Byte := (if h then 0x06 else 0x00) ||| (if c then 0x60 else 0x00)

/-- `DAA` before the advance: flags `* - 0 *` (R210). -/
def decimalAdjust (s : State) : State :=
  if s.flagN = false then
    let r := s.a + adjustAdd s.a s.flagH s.flagC
    { s.setFlags (r == 0) s.flagN false (s.flagC || decide (s.a.toNat > 0x99)) with a := r }
  else
    let r := s.a - adjustSub s.flagH s.flagC
    { s.setFlags (r == 0) s.flagN false s.flagC with a := r }

/-- `INC B` (R206). -/
def execIncB (s : State) : Res := incRegister .b s

/-- `DEC B` (R208). -/
def execDecB (s : State) : Res := decRegister .b s

/-- `INC C` (R206). -/
def execIncC (s : State) : Res := incRegister .c s

/-- `DEC C` (R208). -/
def execDecC (s : State) : Res := decRegister .c s

/-- `INC D` (R206). -/
def execIncD (s : State) : Res := incRegister .d s

/-- `DEC D` (R208). -/
def execDecD (s : State) : Res := decRegister .d s

/-- `INC E` (R206). -/
def execIncE (s : State) : Res := incRegister .e s

/-- `DEC E` (R208). -/
def execDecE (s : State) : Res := decRegister .e s

/-- `INC H` (R206). -/
def execIncH (s : State) : Res := incRegister .h s

/-- `DEC H` (R208). -/
def execDecH (s : State) : Res := decRegister .h s

/-- `DAA` (R210). -/
def execDaa (s : State) : Res := done 1 4 (decimalAdjust s)

/-- `INC L` (R206). -/
def execIncL (s : State) : Res := incRegister .l s

/-- `DEC L` (R208). -/
def execDecL (s : State) : Res := decRegister .l s

/-- `CPL` (R211). -/
def execCpl (s : State) : Res := done 1 4 { s.setFlags s.flagZ true true s.flagC with a := s.a ^^^ 0xFF }

/-- `INC (HL)` (R207). -/
def execIncAtHL (s : State) : Res := incMemory s

/-- `DEC (HL)` (R209). -/
def execDecAtHL (s : State) : Res := decMemory s

/-- `SCF` (R212). -/
def execScf (s : State) : Res := done 1 4 (s.setFlags s.flagZ false false true)

/-- `INC A` (R206). -/
def execIncA (s : State) : Res := incRegister .a s

/-- `DEC A` (R208). -/
def execDecA (s : State) : Res := decRegister .a s

/-- `CCF` (R213). -/
def execCcf (s : State) : Res := done 1 4 (s.setFlags s.flagZ false false (!s.flagC))

/-- `ADD A,B` (R190). -/
def execAddA_B (s : State) : Res := done 1 4 (addA s.b false s)

/-- `ADD A,C` (R190). -/
def execAddA_C (s : State) : Res := done 1 4 (addA s.c false s)

/-- `ADD A,D` (R190). -/
def execAddA_D (s : State) : Res := done 1 4 (addA s.d false s)

/-- `ADD A,E` (R190). -/
def execAddA_E (s : State) : Res := done 1 4 (addA s.e false s)

/-- `ADD A,H` (R190). -/
def execAddA_H (s : State) : Res := done 1 4 (addA s.h false s)

/-- `ADD A,L` (R190). -/
def execAddA_L (s : State) : Res := done 1 4 (addA s.l false s)

/-- `ADD A,(HL)` (R190). -/
def execAddA_AtHL (s : State) : Res := done 1 8 (addA (s.read s.hl) false s)

/-- `ADD A,A` (R190). -/
def execAddA_A (s : State) : Res := done 1 4 (addA s.a false s)

/-- `ADC A,B` (R191). -/
def execAdcA_B (s : State) : Res := done 1 4 (addA s.b s.flagC s)

/-- `ADC A,C` (R191). -/
def execAdcA_C (s : State) : Res := done 1 4 (addA s.c s.flagC s)

/-- `ADC A,D` (R191). -/
def execAdcA_D (s : State) : Res := done 1 4 (addA s.d s.flagC s)

/-- `ADC A,E` (R191). -/
def execAdcA_E (s : State) : Res := done 1 4 (addA s.e s.flagC s)

/-- `ADC A,H` (R191). -/
def execAdcA_H (s : State) : Res := done 1 4 (addA s.h s.flagC s)

/-- `ADC A,L` (R191). -/
def execAdcA_L (s : State) : Res := done 1 4 (addA s.l s.flagC s)

/-- `ADC A,(HL)` (R191). -/
def execAdcA_AtHL (s : State) : Res := done 1 8 (addA (s.read s.hl) s.flagC s)

/-- `ADC A,A` (R191). -/
def execAdcA_A (s : State) : Res := done 1 4 (addA s.a s.flagC s)

/-- `SUB B` (R192). -/
def execSubB (s : State) : Res := done 1 4 (subA s.b false s)

/-- `SUB C` (R192). -/
def execSubC (s : State) : Res := done 1 4 (subA s.c false s)

/-- `SUB D` (R192). -/
def execSubD (s : State) : Res := done 1 4 (subA s.d false s)

/-- `SUB E` (R192). -/
def execSubE (s : State) : Res := done 1 4 (subA s.e false s)

/-- `SUB H` (R192). -/
def execSubH (s : State) : Res := done 1 4 (subA s.h false s)

/-- `SUB L` (R192). -/
def execSubL (s : State) : Res := done 1 4 (subA s.l false s)

/-- `SUB (HL)` (R192). -/
def execSubAtHL (s : State) : Res := done 1 8 (subA (s.read s.hl) false s)

/-- `SUB A` (R192). -/
def execSubA (s : State) : Res := done 1 4 (subA s.a false s)

/-- `SBC A,B` (R193). -/
def execSbcA_B (s : State) : Res := done 1 4 (subA s.b s.flagC s)

/-- `SBC A,C` (R193). -/
def execSbcA_C (s : State) : Res := done 1 4 (subA s.c s.flagC s)

/-- `SBC A,D` (R193). -/
def execSbcA_D (s : State) : Res := done 1 4 (subA s.d s.flagC s)

/-- `SBC A,E` (R193). -/
def execSbcA_E (s : State) : Res := done 1 4 (subA s.e s.flagC s)

/-- `SBC A,H` (R193). -/
def execSbcA_H (s : State) : Res := done 1 4 (subA s.h s.flagC s)

/-- `SBC A,L` (R193). -/
def execSbcA_L (s : State) : Res := done 1 4 (subA s.l s.flagC s)

/-- `SBC A,(HL)` (R193). -/
def execSbcA_AtHL (s : State) : Res := done 1 8 (subA (s.read s.hl) s.flagC s)

/-- `SBC A,A` (R193). -/
def execSbcA_A (s : State) : Res := done 1 4 (subA s.a s.flagC s)

/-- `AND B` (R194). -/
def execAndB (s : State) : Res := done 1 4 (andA s.b s)

/-- `AND C` (R194). -/
def execAndC (s : State) : Res := done 1 4 (andA s.c s)

/-- `AND D` (R194). -/
def execAndD (s : State) : Res := done 1 4 (andA s.d s)

/-- `AND E` (R194). -/
def execAndE (s : State) : Res := done 1 4 (andA s.e s)

/-- `AND H` (R194). -/
def execAndH (s : State) : Res := done 1 4 (andA s.h s)

/-- `AND L` (R194). -/
def execAndL (s : State) : Res := done 1 4 (andA s.l s)

/-- `AND (HL)` (R194). -/
def execAndAtHL (s : State) : Res := done 1 8 (andA (s.read s.hl) s)

/-- `AND A` (R194). -/
def execAndA (s : State) : Res := done 1 4 (andA s.a s)

/-- `XOR B` (R195). -/
def execXorB (s : State) : Res := done 1 4 (xorA s.b s)

/-- `XOR C` (R195). -/
def execXorC (s : State) : Res := done 1 4 (xorA s.c s)

/-- `XOR D` (R195). -/
def execXorD (s : State) : Res := done 1 4 (xorA s.d s)

/-- `XOR E` (R195). -/
def execXorE (s : State) : Res := done 1 4 (xorA s.e s)

/-- `XOR H` (R195). -/
def execXorH (s : State) : Res := done 1 4 (xorA s.h s)

/-- `XOR L` (R195). -/
def execXorL (s : State) : Res := done 1 4 (xorA s.l s)

/-- `XOR (HL)` (R195). -/
def execXorAtHL (s : State) : Res := done 1 8 (xorA (s.read s.hl) s)

/-- `XOR A` (R195). -/
def execXorA (s : State) : Res := done 1 4 (xorA s.a s)

/-- `OR B` (R196). -/
def execOrB (s : State) : Res := done 1 4 (orA s.b s)

/-- `OR C` (R196). -/
def execOrC (s : State) : Res := done 1 4 (orA s.c s)

/-- `OR D` (R196). -/
def execOrD (s : State) : Res := done 1 4 (orA s.d s)

/-- `OR E` (R196). -/
def execOrE (s : State) : Res := done 1 4 (orA s.e s)

/-- `OR H` (R196). -/
def execOrH (s : State) : Res := done 1 4 (orA s.h s)

/-- `OR L` (R196). -/
def execOrL (s : State) : Res := done 1 4 (orA s.l s)

/-- `OR (HL)` (R196). -/
def execOrAtHL (s : State) : Res := done 1 8 (orA (s.read s.hl) s)

/-- `OR A` (R196). -/
def execOrA (s : State) : Res := done 1 4 (orA s.a s)

/-- `CP B` (R197). -/
def execCpB (s : State) : Res := done 1 4 (compareA s.b s)

/-- `CP C` (R197). -/
def execCpC (s : State) : Res := done 1 4 (compareA s.c s)

/-- `CP D` (R197). -/
def execCpD (s : State) : Res := done 1 4 (compareA s.d s)

/-- `CP E` (R197). -/
def execCpE (s : State) : Res := done 1 4 (compareA s.e s)

/-- `CP H` (R197). -/
def execCpH (s : State) : Res := done 1 4 (compareA s.h s)

/-- `CP L` (R197). -/
def execCpL (s : State) : Res := done 1 4 (compareA s.l s)

/-- `CP (HL)` (R197). -/
def execCpAtHL (s : State) : Res := done 1 8 (compareA (s.read s.hl) s)

/-- `CP A` (R197). -/
def execCpA (s : State) : Res := done 1 4 (compareA s.a s)

/-- `ADD A,n8` (R198). -/
def execAddA_n8 (n8 : Byte) (s : State) : Res := done 2 8 (addA n8 false s)

/-- `ADC A,n8` (R199). -/
def execAdcA_n8 (n8 : Byte) (s : State) : Res := done 2 8 (addA n8 s.flagC s)

/-- `SUB n8` (R200). -/
def execSub_n8 (n8 : Byte) (s : State) : Res := done 2 8 (subA n8 false s)

/-- `SBC A,n8` (R201). -/
def execSbcA_n8 (n8 : Byte) (s : State) : Res := done 2 8 (subA n8 s.flagC s)

/-- `AND n8` (R202). -/
def execAnd_n8 (n8 : Byte) (s : State) : Res := done 2 8 (andA n8 s)

/-- `XOR n8` (R203). -/
def execXor_n8 (n8 : Byte) (s : State) : Res := done 2 8 (xorA n8 s)

/-- `OR n8` (R204). -/
def execOr_n8 (n8 : Byte) (s : State) : Res := done 2 8 (orA n8 s)

/-- `CP n8` (R205). -/
def execCp_n8 (n8 : Byte) (s : State) : Res := done 2 8 (compareA n8 s)

end Sys2Proof.Machine
end

