-- ==== Sys2Proof/Machine/Control.lean ====
section
/-! DEFINITION. Control-transfer instructions (spec/45_control.md). No instruction of this family writes a flag; there is no
delay slot (R288). `RETI` is the return instruction of a machine that never enters a trap (60_exceptions.md R327). -/

namespace Sys2Proof.Machine

/-- `PC <- PC + 2 + sext_16(e8)` (R273). -/
def jumpRelative (e8 : Byte) (n : Byte) (s : State) : Res := jump (s.pc + 2 + sext16 e8) n s

/-- `Push16(PC + len); PC <- target`: a call of `len` bytes (R280, R286). -/
def callTo (target : Word) (len : Word) (n : Byte) (s : State) : Res :=
  andThen (push16 (s.pc + len) s) fun t => jump target n t

/-- `JR e8` (R273). -/
def execJr (e8 : Byte) (s : State) : Res := jumpRelative e8 12 s

/-- `JR NZ,e8` (R274). -/
def execJrNZ (e8 : Byte) (s : State) : Res := if s.cond .nz then jumpRelative e8 12 s else done 2 8 s

/-- `JR Z,e8` (R274). -/
def execJrZ (e8 : Byte) (s : State) : Res := if s.cond .z then jumpRelative e8 12 s else done 2 8 s

/-- `JR NC,e8` (R274). -/
def execJrNC (e8 : Byte) (s : State) : Res := if s.cond .nc then jumpRelative e8 12 s else done 2 8 s

/-- `JR C,e8` (R274). -/
def execJrC (e8 : Byte) (s : State) : Res := if s.cond .c then jumpRelative e8 12 s else done 2 8 s

/-- `RET NZ` (R283). -/
def execRetNZ (s : State) : Res := if s.cond .nz then jump s.popped 20 s.dropTop else done 1 8 s

/-- `JP NZ,a16` (R271). -/
def execJpNZ (a16 : Word) (s : State) : Res := if s.cond .nz then jump a16 16 s else done 3 12 s

/-- `JP a16` (R270). -/
def execJp (a16 : Word) (s : State) : Res := jump a16 16 s

/-- `CALL NZ,a16` (R281). -/
def execCallNZ (a16 : Word) (s : State) : Res := if s.cond .nz then callTo a16 3 24 s else done 3 12 s

/-- `RST 0x00` (R286). -/
def execRst00 (s : State) : Res := callTo 0x0000 1 16 s

/-- `RET Z` (R283). -/
def execRetZ (s : State) : Res := if s.cond .z then jump s.popped 20 s.dropTop else done 1 8 s

/-- `RET` (R282). -/
def execRet (s : State) : Res := jump s.popped 16 s.dropTop

/-- `JP Z,a16` (R271). -/
def execJpZ (a16 : Word) (s : State) : Res := if s.cond .z then jump a16 16 s else done 3 12 s

/-- `CALL Z,a16` (R281). -/
def execCallZ (a16 : Word) (s : State) : Res := if s.cond .z then callTo a16 3 24 s else done 3 12 s

/-- `CALL a16` (R280). -/
def execCall (a16 : Word) (s : State) : Res := callTo a16 3 24 s

/-- `RST 0x08` (R286). -/
def execRst08 (s : State) : Res := callTo 0x0008 1 16 s

/-- `RET NC` (R283). -/
def execRetNC (s : State) : Res := if s.cond .nc then jump s.popped 20 s.dropTop else done 1 8 s

/-- `JP NC,a16` (R271). -/
def execJpNC (a16 : Word) (s : State) : Res := if s.cond .nc then jump a16 16 s else done 3 12 s

/-- `CALL NC,a16` (R281). -/
def execCallNC (a16 : Word) (s : State) : Res := if s.cond .nc then callTo a16 3 24 s else done 3 12 s

/-- `RST 0x10` (R286). -/
def execRst10 (s : State) : Res := callTo 0x0010 1 16 s

/-- `RET C` (R283). -/
def execRetC (s : State) : Res := if s.cond .c then jump s.popped 20 s.dropTop else done 1 8 s

/-- `RETI` (R284). -/
def execReti (s : State) : Res := jump s.popped 16 { s.dropTop with ime := true }

/-- `JP C,a16` (R271). -/
def execJpC (a16 : Word) (s : State) : Res := if s.cond .c then jump a16 16 s else done 3 12 s

/-- `CALL C,a16` (R281). -/
def execCallC (a16 : Word) (s : State) : Res := if s.cond .c then callTo a16 3 24 s else done 3 12 s

/-- `RST 0x18` (R286). -/
def execRst18 (s : State) : Res := callTo 0x0018 1 16 s

/-- `RST 0x20` (R286). -/
def execRst20 (s : State) : Res := callTo 0x0020 1 16 s

/-- `JP HL` (R272). -/
def execJpHL (s : State) : Res := jump s.hl 4 s

/-- `RST 0x28` (R286). -/
def execRst28 (s : State) : Res := callTo 0x0028 1 16 s

/-- `RST 0x30` (R286). -/
def execRst30 (s : State) : Res := callTo 0x0030 1 16 s

/-- `RST 0x38` (R286). -/
def execRst38 (s : State) : Res := callTo 0x0038 1 16 s

end Sys2Proof.Machine
end

