-- ==== Sys2Proof/Machine/Load16.lean ====
section
/-! DEFINITION. 16-bit loads and stack instructions (spec/41_load16_stack.md). -/

namespace Sys2Proof.Machine

/-- `LD BC,n16` (R170). -/
def execLdBC_n16 (n16 : Word) (s : State) : Res := done 3 12 (s.setPair .bc n16)

/-- `LD (a16),SP` (R171). -/
def execLdA16_SP (a16 : Word) (s : State) : Res := andThen (writeWord a16 s.sp s) fun t => done 3 20 t

/-- `LD DE,n16` (R170). -/
def execLdDE_n16 (n16 : Word) (s : State) : Res := done 3 12 (s.setPair .de n16)

/-- `LD HL,n16` (R170). -/
def execLdHL_n16 (n16 : Word) (s : State) : Res := done 3 12 (s.setPair .hl n16)

/-- `LD SP,n16` (R170). -/
def execLdSP_n16 (n16 : Word) (s : State) : Res := done 3 12 (s.setPair .sp n16)

/-- `POP BC` (R179). -/
def execPopBC (s : State) : Res := done 1 12 (s.dropTop.setStackPair .bc s.popped)

/-- `PUSH BC` (R178). -/
def execPushBC (s : State) : Res := andThen (push16 (s.stackPair .bc) s) fun t => done 1 16 t

/-- `POP DE` (R179). -/
def execPopDE (s : State) : Res := done 1 12 (s.dropTop.setStackPair .de s.popped)

/-- `PUSH DE` (R178). -/
def execPushDE (s : State) : Res := andThen (push16 (s.stackPair .de) s) fun t => done 1 16 t

/-- `POP HL` (R179). -/
def execPopHL (s : State) : Res := done 1 12 (s.dropTop.setStackPair .hl s.popped)

/-- `PUSH HL` (R178). -/
def execPushHL (s : State) : Res := andThen (push16 (s.stackPair .hl) s) fun t => done 1 16 t

/-- `POP AF` (R179). -/
def execPopAF (s : State) : Res := done 1 12 (s.dropTop.setStackPair .af s.popped)

/-- `PUSH AF` (R178). -/
def execPushAF (s : State) : Res := andThen (push16 (s.stackPair .af) s) fun t => done 1 16 t

/-- `LD HL,SP+e8` (R175). -/
def execLdHL_SPe8 (e8 : Byte) (s : State) : Res := done 2 12 ((s.setSpFlags e8).setPair .hl (s.sp + sext16 e8))

/-- `LD SP,HL` (R172). -/
def execLdSP_HL (s : State) : Res := done 1 8 { s with sp := s.hl }

end Sys2Proof.Machine
end

