-- ==== Sys2Proof/Machine/Load8.lean ====
section
/-! DEFINITION. 8-bit load and store instructions (spec/40_load8.md). No instruction of this family reads or writes `F`. -/

namespace Sys2Proof.Machine

/-- `r <- v; PC <- PC + len; cycles <- n`. -/
def loadReg (r : Reg8) (v : Byte) (len : Word) (n : Byte) (s : State) : Res := done len n (s.setReg r v)

/-- `MemWrite(a, 1, v); PC <- PC + len; cycles <- n`. -/
def storeByte (a : Word) (v : Byte) (len : Word) (n : Byte) (s : State) : Res :=
  andThen (write a v s) fun t => done len n t

/-- `LD (BC),A` (R137). -/
def execLdAtBC_A (s : State) : Res := storeByte s.bc s.a 1 8 s

/-- `LD B,n8` (R133). -/
def execLdB_n8 (n8 : Byte) (s : State) : Res := loadReg .b n8 2 8 s

/-- `LD A,(BC)` (R135). -/
def execLdA_AtBC (s : State) : Res := loadReg .a (s.read s.bc) 1 8 s

/-- `LD C,n8` (R133). -/
def execLdC_n8 (n8 : Byte) (s : State) : Res := loadReg .c n8 2 8 s

/-- `LD (DE),A` (R138). -/
def execLdAtDE_A (s : State) : Res := storeByte s.de s.a 1 8 s

/-- `LD D,n8` (R133). -/
def execLdD_n8 (n8 : Byte) (s : State) : Res := loadReg .d n8 2 8 s

/-- `LD A,(DE)` (R136). -/
def execLdA_AtDE (s : State) : Res := loadReg .a (s.read s.de) 1 8 s

/-- `LD E,n8` (R133). -/
def execLdE_n8 (n8 : Byte) (s : State) : Res := loadReg .e n8 2 8 s

/-- `LD (HL+),A` (R139). -/
def execLdAtHLInc_A (s : State) : Res := andThen (write s.hl s.a s) fun t => done 1 8 (t.setPair .hl (t.hl + 1))

/-- `LD H,n8` (R133). -/
def execLdH_n8 (n8 : Byte) (s : State) : Res := loadReg .h n8 2 8 s

/-- `LD A,(HL+)` (R141). -/
def execLdA_AtHLInc (s : State) : Res := done 1 8 ((s.setReg .a (s.read s.hl)).setPair .hl (s.hl + 1))

/-- `LD L,n8` (R133). -/
def execLdL_n8 (n8 : Byte) (s : State) : Res := loadReg .l n8 2 8 s

/-- `LD (HL-),A` (R140). -/
def execLdAtHLDec_A (s : State) : Res := andThen (write s.hl s.a s) fun t => done 1 8 (t.setPair .hl (t.hl - 1))

/-- `LD (HL),n8` (R134). -/
def execLdAtHL_n8 (n8 : Byte) (s : State) : Res := storeByte s.hl n8 2 12 s

/-- `LD A,(HL-)` (R142). -/
def execLdA_AtHLDec (s : State) : Res := done 1 8 ((s.setReg .a (s.read s.hl)).setPair .hl (s.hl - 1))

/-- `LD A,n8` (R133). -/
def execLdA_n8 (n8 : Byte) (s : State) : Res := loadReg .a n8 2 8 s

/-- `LD B,B` (R130). -/
def execLdB_B (s : State) : Res := loadReg .b s.b 1 4 s

/-- `LD B,C` (R130). -/
def execLdB_C (s : State) : Res := loadReg .b s.c 1 4 s

/-- `LD B,D` (R130). -/
def execLdB_D (s : State) : Res := loadReg .b s.d 1 4 s

/-- `LD B,E` (R130). -/
def execLdB_E (s : State) : Res := loadReg .b s.e 1 4 s

/-- `LD B,H` (R130). -/
def execLdB_H (s : State) : Res := loadReg .b s.h 1 4 s

/-- `LD B,L` (R130). -/
def execLdB_L (s : State) : Res := loadReg .b s.l 1 4 s

/-- `LD B,(HL)` (R131). -/
def execLdB_AtHL (s : State) : Res := loadReg .b (s.read s.hl) 1 8 s

/-- `LD B,A` (R130). -/
def execLdB_A (s : State) : Res := loadReg .b s.a 1 4 s

/-- `LD C,B` (R130). -/
def execLdC_B (s : State) : Res := loadReg .c s.b 1 4 s

/-- `LD C,C` (R130). -/
def execLdC_C (s : State) : Res := loadReg .c s.c 1 4 s

/-- `LD C,D` (R130). -/
def execLdC_D (s : State) : Res := loadReg .c s.d 1 4 s

/-- `LD C,E` (R130). -/
def execLdC_E (s : State) : Res := loadReg .c s.e 1 4 s

/-- `LD C,H` (R130). -/
def execLdC_H (s : State) : Res := loadReg .c s.h 1 4 s

/-- `LD C,L` (R130). -/
def execLdC_L (s : State) : Res := loadReg .c s.l 1 4 s

/-- `LD C,(HL)` (R131). -/
def execLdC_AtHL (s : State) : Res := loadReg .c (s.read s.hl) 1 8 s

/-- `LD C,A` (R130). -/
def execLdC_A (s : State) : Res := loadReg .c s.a 1 4 s

/-- `LD D,B` (R130). -/
def execLdD_B (s : State) : Res := loadReg .d s.b 1 4 s

/-- `LD D,C` (R130). -/
def execLdD_C (s : State) : Res := loadReg .d s.c 1 4 s

/-- `LD D,D` (R130). -/
def execLdD_D (s : State) : Res := loadReg .d s.d 1 4 s

/-- `LD D,E` (R130). -/
def execLdD_E (s : State) : Res := loadReg .d s.e 1 4 s

/-- `LD D,H` (R130). -/
def execLdD_H (s : State) : Res := loadReg .d s.h 1 4 s

/-- `LD D,L` (R130). -/
def execLdD_L (s : State) : Res := loadReg .d s.l 1 4 s

/-- `LD D,(HL)` (R131). -/
def execLdD_AtHL (s : State) : Res := loadReg .d (s.read s.hl) 1 8 s

/-- `LD D,A` (R130). -/
def execLdD_A (s : State) : Res := loadReg .d s.a 1 4 s

/-- `LD E,B` (R130). -/
def execLdE_B (s : State) : Res := loadReg .e s.b 1 4 s

/-- `LD E,C` (R130). -/
def execLdE_C (s : State) : Res := loadReg .e s.c 1 4 s

/-- `LD E,D` (R130). -/
def execLdE_D (s : State) : Res := loadReg .e s.d 1 4 s

/-- `LD E,E` (R130). -/
def execLdE_E (s : State) : Res := loadReg .e s.e 1 4 s

/-- `LD E,H` (R130). -/
def execLdE_H (s : State) : Res := loadReg .e s.h 1 4 s

/-- `LD E,L` (R130). -/
def execLdE_L (s : State) : Res := loadReg .e s.l 1 4 s

/-- `LD E,(HL)` (R131). -/
def execLdE_AtHL (s : State) : Res := loadReg .e (s.read s.hl) 1 8 s

/-- `LD E,A` (R130). -/
def execLdE_A (s : State) : Res := loadReg .e s.a 1 4 s

/-- `LD H,B` (R130). -/
def execLdH_B (s : State) : Res := loadReg .h s.b 1 4 s

/-- `LD H,C` (R130). -/
def execLdH_C (s : State) : Res := loadReg .h s.c 1 4 s

/-- `LD H,D` (R130). -/
def execLdH_D (s : State) : Res := loadReg .h s.d 1 4 s

/-- `LD H,E` (R130). -/
def execLdH_E (s : State) : Res := loadReg .h s.e 1 4 s

/-- `LD H,H` (R130). -/
def execLdH_H (s : State) : Res := loadReg .h s.h 1 4 s

/-- `LD H,L` (R130). -/
def execLdH_L (s : State) : Res := loadReg .h s.l 1 4 s

/-- `LD H,(HL)` (R131). -/
def execLdH_AtHL (s : State) : Res := loadReg .h (s.read s.hl) 1 8 s

/-- `LD H,A` (R130). -/
def execLdH_A (s : State) : Res := loadReg .h s.a 1 4 s

/-- `LD L,B` (R130). -/
def execLdL_B (s : State) : Res := loadReg .l s.b 1 4 s

/-- `LD L,C` (R130). -/
def execLdL_C (s : State) : Res := loadReg .l s.c 1 4 s

/-- `LD L,D` (R130). -/
def execLdL_D (s : State) : Res := loadReg .l s.d 1 4 s

/-- `LD L,E` (R130). -/
def execLdL_E (s : State) : Res := loadReg .l s.e 1 4 s

/-- `LD L,H` (R130). -/
def execLdL_H (s : State) : Res := loadReg .l s.h 1 4 s

/-- `LD L,L` (R130). -/
def execLdL_L (s : State) : Res := loadReg .l s.l 1 4 s

/-- `LD L,(HL)` (R131). -/
def execLdL_AtHL (s : State) : Res := loadReg .l (s.read s.hl) 1 8 s

/-- `LD L,A` (R130). -/
def execLdL_A (s : State) : Res := loadReg .l s.a 1 4 s

/-- `LD (HL),B` (R132). -/
def execLdAtHL_B (s : State) : Res := storeByte s.hl s.b 1 8 s

/-- `LD (HL),C` (R132). -/
def execLdAtHL_C (s : State) : Res := storeByte s.hl s.c 1 8 s

/-- `LD (HL),D` (R132). -/
def execLdAtHL_D (s : State) : Res := storeByte s.hl s.d 1 8 s

/-- `LD (HL),E` (R132). -/
def execLdAtHL_E (s : State) : Res := storeByte s.hl s.e 1 8 s

/-- `LD (HL),H` (R132). -/
def execLdAtHL_H (s : State) : Res := storeByte s.hl s.h 1 8 s

/-- `LD (HL),L` (R132). -/
def execLdAtHL_L (s : State) : Res := storeByte s.hl s.l 1 8 s

/-- `LD (HL),A` (R132). -/
def execLdAtHL_A (s : State) : Res := storeByte s.hl s.a 1 8 s

/-- `LD A,B` (R130). -/
def execLdA_B (s : State) : Res := loadReg .a s.b 1 4 s

/-- `LD A,C` (R130). -/
def execLdA_C (s : State) : Res := loadReg .a s.c 1 4 s

/-- `LD A,D` (R130). -/
def execLdA_D (s : State) : Res := loadReg .a s.d 1 4 s

/-- `LD A,E` (R130). -/
def execLdA_E (s : State) : Res := loadReg .a s.e 1 4 s

/-- `LD A,H` (R130). -/
def execLdA_H (s : State) : Res := loadReg .a s.h 1 4 s

/-- `LD A,L` (R130). -/
def execLdA_L (s : State) : Res := loadReg .a s.l 1 4 s

/-- `LD A,(HL)` (R131). -/
def execLdA_AtHL (s : State) : Res := loadReg .a (s.read s.hl) 1 8 s

/-- `LD A,A` (R130). -/
def execLdA_A (s : State) : Res := loadReg .a s.a 1 4 s

/-- `LDH (a8),A` (R150). -/
def execLdhA8_A (a8 : Byte) (s : State) : Res := storeByte (highPage a8) s.a 2 12 s

/-- `LD (C),A` (R152). -/
def execLdAtC_A (s : State) : Res := storeByte (highPage s.c) s.a 1 8 s

/-- `LD (a16),A` (R143). -/
def execLdA16_A (a16 : Word) (s : State) : Res := storeByte a16 s.a 3 16 s

/-- `LDH A,(a8)` (R151). -/
def execLdhA_A8 (a8 : Byte) (s : State) : Res := loadReg .a (s.read (highPage a8)) 2 12 s

/-- `LD A,(C)` (R153). -/
def execLdA_AtC (s : State) : Res := loadReg .a (s.read (highPage s.c)) 1 8 s

/-- `LD A,(a16)` (R144). -/
def execLdA_A16 (a16 : Word) (s : State) : Res := loadReg .a (s.read a16) 3 16 s

end Sys2Proof.Machine
end

