-- ==== Sys2Proof/WellFormed.lean ====
section
/-! DEFINITION. Which terms of `Instr` are instructions. Bit numbers and operand codes are bounded by their types, so the one
check is on the prefix byte: 0xCB "is not an instruction by itself" (30_encoding.md R115). -/

namespace Sys2Proof

/-- Whether a term is one instruction as the encoding gives it. -/
def Instr.wellFormed (i : Instr) : Bool :=
  match i with
  | .prefixCB => false
  | .nop => true
  | .ldBC_n16 _ => true
  | .ldAtBC_A => true
  | .incBC => true
  | .incB => true
  | .decB => true
  | .ldB_n8 _ => true
  | .rlca => true
  | .ldA16_SP _ => true
  | .addHL_BC => true
  | .ldA_AtBC => true
  | .decBC => true
  | .incC => true
  | .decC => true
  | .ldC_n8 _ => true
  | .rrca => true
  | .stop => true
  | .ldDE_n16 _ => true
  | .ldAtDE_A => true
  | .incDE => true
  | .incD => true
  | .decD => true
  | .ldD_n8 _ => true
  | .rla => true
  | .jr _ => true
  | .addHL_DE => true
  | .ldA_AtDE => true
  | .decDE => true
  | .incE => true
  | .decE => true
  | .ldE_n8 _ => true
  | .rra => true
  | .jrNZ _ => true
  | .ldHL_n16 _ => true
  | .ldAtHLInc_A => true
  | .incHL => true
  | .incH => true
  | .decH => true
  | .ldH_n8 _ => true
  | .daa => true
  | .jrZ _ => true
  | .addHL_HL => true
  | .ldA_AtHLInc => true
  | .decHL => true
  | .incL => true
  | .decL => true
  | .ldL_n8 _ => true
  | .cpl => true
  | .jrNC _ => true
  | .ldSP_n16 _ => true
  | .ldAtHLDec_A => true
  | .incSP => true
  | .incAtHL => true
  | .decAtHL => true
  | .ldAtHL_n8 _ => true
  | .scf => true
  | .jrC _ => true
  | .addHL_SP => true
  | .ldA_AtHLDec => true
  | .decSP => true
  | .incA => true
  | .decA => true
  | .ldA_n8 _ => true
  | .ccf => true
  | .ldB_B => true
  | .ldB_C => true
  | .ldB_D => true
  | .ldB_E => true
  | .ldB_H => true
  | .ldB_L => true
  | .ldB_AtHL => true
  | .ldB_A => true
  | .ldC_B => true
  | .ldC_C => true
  | .ldC_D => true
  | .ldC_E => true
  | .ldC_H => true
  | .ldC_L => true
  | .ldC_AtHL => true
  | .ldC_A => true
  | .ldD_B => true
  | .ldD_C => true
  | .ldD_D => true
  | .ldD_E => true
  | .ldD_H => true
  | .ldD_L => true
  | .ldD_AtHL => true
  | .ldD_A => true
  | .ldE_B => true
  | .ldE_C => true
  | .ldE_D => true
  | .ldE_E => true
  | .ldE_H => true
  | .ldE_L => true
  | .ldE_AtHL => true
  | .ldE_A => true
  | .ldH_B => true
  | .ldH_C => true
  | .ldH_D => true
  | .ldH_E => true
  | .ldH_H => true
  | .ldH_L => true
  | .ldH_AtHL => true
  | .ldH_A => true
  | .ldL_B => true
  | .ldL_C => true
  | .ldL_D => true
  | .ldL_E => true
  | .ldL_H => true
  | .ldL_L => true
  | .ldL_AtHL => true
  | .ldL_A => true
  | .ldAtHL_B => true
  | .ldAtHL_C => true
  | .ldAtHL_D => true
  | .ldAtHL_E => true
  | .ldAtHL_H => true
  | .ldAtHL_L => true
  | .halt => true
  | .ldAtHL_A => true
  | .ldA_B => true
  | .ldA_C => true
  | .ldA_D => true
  | .ldA_E => true
  | .ldA_H => true
  | .ldA_L => true
  | .ldA_AtHL => true
  | .ldA_A => true
  | .addA_B => true
  | .addA_C => true
  | .addA_D => true
  | .addA_E => true
  | .addA_H => true
  | .addA_L => true
  | .addA_AtHL => true
  | .addA_A => true
  | .adcA_B => true
  | .adcA_C => true
  | .adcA_D => true
  | .adcA_E => true
  | .adcA_H => true
  | .adcA_L => true
  | .adcA_AtHL => true
  | .adcA_A => true
  | .subB => true
  | .subC => true
  | .subD => true
  | .subE => true
  | .subH => true
  | .subL => true
  | .subAtHL => true
  | .subA => true
  | .sbcA_B => true
  | .sbcA_C => true
  | .sbcA_D => true
  | .sbcA_E => true
  | .sbcA_H => true
  | .sbcA_L => true
  | .sbcA_AtHL => true
  | .sbcA_A => true
  | .andB => true
  | .andC => true
  | .andD => true
  | .andE => true
  | .andH => true
  | .andL => true
  | .andAtHL => true
  | .andA => true
  | .xorB => true
  | .xorC => true
  | .xorD => true
  | .xorE => true
  | .xorH => true
  | .xorL => true
  | .xorAtHL => true
  | .xorA => true
  | .orB => true
  | .orC => true
  | .orD => true
  | .orE => true
  | .orH => true
  | .orL => true
  | .orAtHL => true
  | .orA => true
  | .cpB => true
  | .cpC => true
  | .cpD => true
  | .cpE => true
  | .cpH => true
  | .cpL => true
  | .cpAtHL => true
  | .cpA => true
  | .retNZ => true
  | .popBC => true
  | .jpNZ _ => true
  | .jp _ => true
  | .callNZ _ => true
  | .pushBC => true
  | .addA_n8 _ => true
  | .rst00 => true
  | .retZ => true
  | .ret => true
  | .jpZ _ => true
  | .callZ _ => true
  | .call _ => true
  | .adcA_n8 _ => true
  | .rst08 => true
  | .retNC => true
  | .popDE => true
  | .jpNC _ => true
  | .undefinedD3 => true
  | .callNC _ => true
  | .pushDE => true
  | .sub_n8 _ => true
  | .rst10 => true
  | .retC => true
  | .reti => true
  | .jpC _ => true
  | .undefinedDB => true
  | .callC _ => true
  | .undefinedDD => true
  | .sbcA_n8 _ => true
  | .rst18 => true
  | .ldhA8_A _ => true
  | .popHL => true
  | .ldAtC_A => true
  | .undefinedE3 => true
  | .undefinedE4 => true
  | .pushHL => true
  | .and_n8 _ => true
  | .rst20 => true
  | .addSP_e8 _ => true
  | .jpHL => true
  | .ldA16_A _ => true
  | .undefinedEB => true
  | .undefinedEC => true
  | .undefinedED => true
  | .xor_n8 _ => true
  | .rst28 => true
  | .ldhA_A8 _ => true
  | .popAF => true
  | .ldA_AtC => true
  | .di => true
  | .undefinedF4 => true
  | .pushAF => true
  | .or_n8 _ => true
  | .rst30 => true
  | .ldHL_SPe8 _ => true
  | .ldSP_HL => true
  | .ldA_A16 _ => true
  | .ei => true
  | .undefinedFC => true
  | .undefinedFD => true
  | .cp_n8 _ => true
  | .rst38 => true
  | .rlc _ => true
  | .rrc _ => true
  | .rl _ => true
  | .rr _ => true
  | .sla _ => true
  | .sra _ => true
  | .swap _ => true
  | .srl _ => true
  | .bit _ _ => true
  | .res _ _ => true
  | .set _ _ => true

end Sys2Proof
end

