-- ==== Sys2Proof/Decode.lean ====
section
/-! DEFINITION. The decoder, written from the field description of the opcode maps (30_encoding.md R102, R110, R111), and after
it the encoder, written from the maps by opcode value. -/

namespace Sys2Proof

/-! ### Fields of an opcode byte (R102) -/

/-- `x = op[7:6]`. -/
def fieldX (op : Byte) : Fin 4 := (op.extractLsb' 6 2).toFin
/-- `y = op[5:3]`. -/
def fieldY (op : Byte) : Fin 8 := (op.extractLsb' 3 3).toFin
/-- `z = op[2:0]`. -/
def fieldZ (op : Byte) : Fin 8 := (op.extractLsb' 0 3).toFin
/-- `p = op[5:4]`. -/
def fieldP (op : Byte) : Fin 4 := (op.extractLsb' 4 2).toFin
/-- `q = op[3]`. -/
def fieldQ (op : Byte) : Fin 2 := (op.extractLsb' 3 1).toFin

/-! ### Operand codes -/

/-- `r8[i]` (R104). -/
def r8OfCode : Fin 8 → R8
  | 0 => .reg .b
  | 1 => .reg .c
  | 2 => .reg .d
  | 3 => .reg .e
  | 4 => .reg .h
  | 5 => .reg .l
  | 6 => .atHL
  | 7 => .reg .a

/-- `rp[p]` (R105). -/
def pairOfCode : Fin 4 → Pair
  | 0 => .bc
  | 1 => .de
  | 2 => .hl
  | 3 => .sp

/-- `rp2[p]` (R105). -/
def stackPairOfCode : Fin 4 → StackPair
  | 0 => .bc
  | 1 => .de
  | 2 => .hl
  | 3 => .af

/-- `cc` (R106). -/
def condOfCode : Fin 4 → Cond
  | 0 => .nz
  | 1 => .z
  | 2 => .nc
  | 3 => .c

/-- `alu[y]` (R107). -/
def aluOfCode : Fin 8 → AluOp
  | 0 => .add
  | 1 => .adc
  | 2 => .sub
  | 3 => .sbc
  | 4 => .and
  | 5 => .xor
  | 6 => .or
  | 7 => .cp

/-! ### The blocks of the maps, as functions of their operands -/

/-- `LD r8[y],r8[z]`, except that (HL),(HL) is `HALT` (R110, block `x = 1`). -/
def ldInstr : R8 → R8 → Instr
  | .reg .b, .reg .b => .ldB_B
  | .reg .b, .reg .c => .ldB_C
  | .reg .b, .reg .d => .ldB_D
  | .reg .b, .reg .e => .ldB_E
  | .reg .b, .reg .h => .ldB_H
  | .reg .b, .reg .l => .ldB_L
  | .reg .b, .reg .a => .ldB_A
  | .reg .c, .reg .b => .ldC_B
  | .reg .c, .reg .c => .ldC_C
  | .reg .c, .reg .d => .ldC_D
  | .reg .c, .reg .e => .ldC_E
  | .reg .c, .reg .h => .ldC_H
  | .reg .c, .reg .l => .ldC_L
  | .reg .c, .reg .a => .ldC_A
  | .reg .d, .reg .b => .ldD_B
  | .reg .d, .reg .c => .ldD_C
  | .reg .d, .reg .d => .ldD_D
  | .reg .d, .reg .e => .ldD_E
  | .reg .d, .reg .h => .ldD_H
  | .reg .d, .reg .l => .ldD_L
  | .reg .d, .reg .a => .ldD_A
  | .reg .e, .reg .b => .ldE_B
  | .reg .e, .reg .c => .ldE_C
  | .reg .e, .reg .d => .ldE_D
  | .reg .e, .reg .e => .ldE_E
  | .reg .e, .reg .h => .ldE_H
  | .reg .e, .reg .l => .ldE_L
  | .reg .e, .reg .a => .ldE_A
  | .reg .h, .reg .b => .ldH_B
  | .reg .h, .reg .c => .ldH_C
  | .reg .h, .reg .d => .ldH_D
  | .reg .h, .reg .e => .ldH_E
  | .reg .h, .reg .h => .ldH_H
  | .reg .h, .reg .l => .ldH_L
  | .reg .h, .reg .a => .ldH_A
  | .reg .l, .reg .b => .ldL_B
  | .reg .l, .reg .c => .ldL_C
  | .reg .l, .reg .d => .ldL_D
  | .reg .l, .reg .e => .ldL_E
  | .reg .l, .reg .h => .ldL_H
  | .reg .l, .reg .l => .ldL_L
  | .reg .l, .reg .a => .ldL_A
  | .reg .a, .reg .b => .ldA_B
  | .reg .a, .reg .c => .ldA_C
  | .reg .a, .reg .d => .ldA_D
  | .reg .a, .reg .e => .ldA_E
  | .reg .a, .reg .h => .ldA_H
  | .reg .a, .reg .l => .ldA_L
  | .reg .a, .reg .a => .ldA_A
  | .reg .b, .atHL => .ldB_AtHL
  | .reg .c, .atHL => .ldC_AtHL
  | .reg .d, .atHL => .ldD_AtHL
  | .reg .e, .atHL => .ldE_AtHL
  | .reg .h, .atHL => .ldH_AtHL
  | .reg .l, .atHL => .ldL_AtHL
  | .reg .a, .atHL => .ldA_AtHL
  | .atHL, .reg .b => .ldAtHL_B
  | .atHL, .reg .c => .ldAtHL_C
  | .atHL, .reg .d => .ldAtHL_D
  | .atHL, .reg .e => .ldAtHL_E
  | .atHL, .reg .h => .ldAtHL_H
  | .atHL, .reg .l => .ldAtHL_L
  | .atHL, .reg .a => .ldAtHL_A
  | .atHL, .atHL => .halt

/-- `LD r8[y],n8` (R110). -/
def ldImmInstr : R8 → Byte → Instr
  | .reg .b, n8 => .ldB_n8 n8
  | .reg .c, n8 => .ldC_n8 n8
  | .reg .d, n8 => .ldD_n8 n8
  | .reg .e, n8 => .ldE_n8 n8
  | .reg .h, n8 => .ldH_n8 n8
  | .reg .l, n8 => .ldL_n8 n8
  | .reg .a, n8 => .ldA_n8 n8
  | .atHL, n8 => .ldAtHL_n8 n8

/-- `INC r8[y]` (R110). -/
def incInstr : R8 → Instr
  | .reg .b => .incB
  | .reg .c => .incC
  | .reg .d => .incD
  | .reg .e => .incE
  | .reg .h => .incH
  | .reg .l => .incL
  | .reg .a => .incA
  | .atHL => .incAtHL

/-- `DEC r8[y]` (R110). -/
def decInstr : R8 → Instr
  | .reg .b => .decB
  | .reg .c => .decC
  | .reg .d => .decD
  | .reg .e => .decE
  | .reg .h => .decH
  | .reg .l => .decL
  | .reg .a => .decA
  | .atHL => .decAtHL

/-- `alu[y] A,r8[z]` (R110, block `x = 2`). -/
def aluInstr : AluOp → R8 → Instr
  | .add, .reg .b => .addA_B
  | .add, .reg .c => .addA_C
  | .add, .reg .d => .addA_D
  | .add, .reg .e => .addA_E
  | .add, .reg .h => .addA_H
  | .add, .reg .l => .addA_L
  | .add, .reg .a => .addA_A
  | .adc, .reg .b => .adcA_B
  | .adc, .reg .c => .adcA_C
  | .adc, .reg .d => .adcA_D
  | .adc, .reg .e => .adcA_E
  | .adc, .reg .h => .adcA_H
  | .adc, .reg .l => .adcA_L
  | .adc, .reg .a => .adcA_A
  | .sub, .reg .b => .subB
  | .sub, .reg .c => .subC
  | .sub, .reg .d => .subD
  | .sub, .reg .e => .subE
  | .sub, .reg .h => .subH
  | .sub, .reg .l => .subL
  | .sub, .reg .a => .subA
  | .sbc, .reg .b => .sbcA_B
  | .sbc, .reg .c => .sbcA_C
  | .sbc, .reg .d => .sbcA_D
  | .sbc, .reg .e => .sbcA_E
  | .sbc, .reg .h => .sbcA_H
  | .sbc, .reg .l => .sbcA_L
  | .sbc, .reg .a => .sbcA_A
  | .and, .reg .b => .andB
  | .and, .reg .c => .andC
  | .and, .reg .d => .andD
  | .and, .reg .e => .andE
  | .and, .reg .h => .andH
  | .and, .reg .l => .andL
  | .and, .reg .a => .andA
  | .xor, .reg .b => .xorB
  | .xor, .reg .c => .xorC
  | .xor, .reg .d => .xorD
  | .xor, .reg .e => .xorE
  | .xor, .reg .h => .xorH
  | .xor, .reg .l => .xorL
  | .xor, .reg .a => .xorA
  | .or, .reg .b => .orB
  | .or, .reg .c => .orC
  | .or, .reg .d => .orD
  | .or, .reg .e => .orE
  | .or, .reg .h => .orH
  | .or, .reg .l => .orL
  | .or, .reg .a => .orA
  | .cp, .reg .b => .cpB
  | .cp, .reg .c => .cpC
  | .cp, .reg .d => .cpD
  | .cp, .reg .e => .cpE
  | .cp, .reg .h => .cpH
  | .cp, .reg .l => .cpL
  | .cp, .reg .a => .cpA
  | .add, .atHL => .addA_AtHL
  | .adc, .atHL => .adcA_AtHL
  | .sub, .atHL => .subAtHL
  | .sbc, .atHL => .sbcA_AtHL
  | .and, .atHL => .andAtHL
  | .xor, .atHL => .xorAtHL
  | .or, .atHL => .orAtHL
  | .cp, .atHL => .cpAtHL

/-- `alu[y] A,n8` (R110). -/
def aluImmInstr : AluOp → Byte → Instr
  | .add, n8 => .addA_n8 n8
  | .adc, n8 => .adcA_n8 n8
  | .sub, n8 => .sub_n8 n8
  | .sbc, n8 => .sbcA_n8 n8
  | .and, n8 => .and_n8 n8
  | .xor, n8 => .xor_n8 n8
  | .or, n8 => .or_n8 n8
  | .cp, n8 => .cp_n8 n8

/-- `LD rp[p],n16` (R110). -/
def ldPairInstr : Pair → Word → Instr
  | .bc, n16 => .ldBC_n16 n16
  | .de, n16 => .ldDE_n16 n16
  | .hl, n16 => .ldHL_n16 n16
  | .sp, n16 => .ldSP_n16 n16

/-- `ADD HL,rp[p]` (R110). -/
def addHLInstr : Pair → Instr
  | .bc => .addHL_BC
  | .de => .addHL_DE
  | .hl => .addHL_HL
  | .sp => .addHL_SP

/-- `INC rp[p]` (R110). -/
def incPairInstr : Pair → Instr
  | .bc => .incBC
  | .de => .incDE
  | .hl => .incHL
  | .sp => .incSP

/-- `DEC rp[p]` (R110). -/
def decPairInstr : Pair → Instr
  | .bc => .decBC
  | .de => .decDE
  | .hl => .decHL
  | .sp => .decSP

/-- `PUSH rp2[p]` (R110). -/
def pushInstr : StackPair → Instr
  | .bc => .pushBC
  | .de => .pushDE
  | .hl => .pushHL
  | .af => .pushAF

/-- `POP rp2[p]` (R110). -/
def popInstr : StackPair → Instr
  | .bc => .popBC
  | .de => .popDE
  | .hl => .popHL
  | .af => .popAF

/-- `JR cc,e8` (R110). -/
def jrCondInstr : Cond → Byte → Instr
  | .nz, e8 => .jrNZ e8
  | .z, e8 => .jrZ e8
  | .nc, e8 => .jrNC e8
  | .c, e8 => .jrC e8

/-- `JP cc,a16` (R110). -/
def jpCondInstr : Cond → Word → Instr
  | .nz, a16 => .jpNZ a16
  | .z, a16 => .jpZ a16
  | .nc, a16 => .jpNC a16
  | .c, a16 => .jpC a16

/-- `CALL cc,a16` (R110). -/
def callCondInstr : Cond → Word → Instr
  | .nz, a16 => .callNZ a16
  | .z, a16 => .callZ a16
  | .nc, a16 => .callNC a16
  | .c, a16 => .callC a16

/-- `RET cc` (R110). -/
def retCondInstr : Cond → Instr
  | .nz => .retNZ
  | .z => .retZ
  | .nc => .retNC
  | .c => .retC

/-- `RST y*8` (R109, R110). -/
def rstInstr : Fin 8 → Instr
  | 0 => .rst00
  | 1 => .rst08
  | 2 => .rst10
  | 3 => .rst18
  | 4 => .rst20
  | 5 => .rst28
  | 6 => .rst30
  | 7 => .rst38

/-- `rot[y] r8[z]`, the secondary block `x = 0` (R108, R111). -/
def rotInstr : Fin 8 → R8 → Instr
  | 0, x => .rlc x
  | 1, x => .rrc x
  | 2, x => .rl x
  | 3, x => .rr x
  | 4, x => .sla x
  | 5, x => .sra x
  | 6, x => .swap x
  | 7, x => .srl x

/-! ### The decoder -/

/-- The secondary table, by the fields of `op2` (R111). -/
def decodeSecondary (op2 : Byte) : Instr :=
  let x := r8OfCode (fieldZ op2)
  match fieldX op2 with
  | 0 => rotInstr (fieldY op2) x
  | 1 => .bit (fieldY op2) x
  | 2 => .res (fieldY op2) x
  | 3 => .set (fieldY op2) x

/-- The primary block `x = 0` (R110): byte 0 `op`, operand bytes `b1`, `b2`. -/
def decodeBlock0 (op b1 b2 : Byte) : Instr :=
  match fieldZ op with
  | 0 =>
    match fieldY op with
    | 0 => .nop
    | 1 => .ldA16_SP (word b2 b1)
    | 2 => .stop
    | 3 => .jr b1
    | 4 => jrCondInstr .nz b1
    | 5 => jrCondInstr .z b1
    | 6 => jrCondInstr .nc b1
    | 7 => jrCondInstr .c b1
  | 1 =>
    match fieldQ op with
    | 0 => ldPairInstr (pairOfCode (fieldP op)) (word b2 b1)
    | 1 => addHLInstr (pairOfCode (fieldP op))
  | 2 =>
    match fieldQ op with
    | 0 =>
      match fieldP op with
      | 0 => .ldAtBC_A
      | 1 => .ldAtDE_A
      | 2 => .ldAtHLInc_A
      | 3 => .ldAtHLDec_A
    | 1 =>
      match fieldP op with
      | 0 => .ldA_AtBC
      | 1 => .ldA_AtDE
      | 2 => .ldA_AtHLInc
      | 3 => .ldA_AtHLDec
  | 3 =>
    match fieldQ op with
    | 0 => incPairInstr (pairOfCode (fieldP op))
    | 1 => decPairInstr (pairOfCode (fieldP op))
  | 4 => incInstr (r8OfCode (fieldY op))
  | 5 => decInstr (r8OfCode (fieldY op))
  | 6 => ldImmInstr (r8OfCode (fieldY op)) b1
  | 7 =>
    match fieldY op with
    | 0 => .rlca
    | 1 => .rrca
    | 2 => .rla
    | 3 => .rra
    | 4 => .daa
    | 5 => .cpl
    | 6 => .scf
    | 7 => .ccf

/-- The primary block `x = 3` (R110): byte 0 `op`, operand bytes `b1`, `b2`. -/
def decodeBlock3 (op b1 b2 : Byte) : Instr :=
  match fieldZ op with
  | 0 =>
    match fieldY op with
    | 0 => retCondInstr .nz
    | 1 => retCondInstr .z
    | 2 => retCondInstr .nc
    | 3 => retCondInstr .c
    | 4 => .ldhA8_A b1
    | 5 => .addSP_e8 b1
    | 6 => .ldhA_A8 b1
    | 7 => .ldHL_SPe8 b1
  | 1 =>
    match fieldQ op with
    | 0 => popInstr (stackPairOfCode (fieldP op))
    | 1 =>
      match fieldP op with
      | 0 => .ret
      | 1 => .reti
      | 2 => .jpHL
      | 3 => .ldSP_HL
  | 2 =>
    match fieldY op with
    | 0 => jpCondInstr .nz (word b2 b1)
    | 1 => jpCondInstr .z (word b2 b1)
    | 2 => jpCondInstr .nc (word b2 b1)
    | 3 => jpCondInstr .c (word b2 b1)
    | 4 => .ldAtC_A
    | 5 => .ldA16_A (word b2 b1)
    | 6 => .ldA_AtC
    | 7 => .ldA_A16 (word b2 b1)
  | 3 =>
    match fieldY op with
    | 0 => .jp (word b2 b1)
    | 1 => decodeSecondary b1
    | 2 => .undefinedD3
    | 3 => .undefinedDB
    | 4 => .undefinedE3
    | 5 => .undefinedEB
    | 6 => .di
    | 7 => .ei
  | 4 =>
    match fieldY op with
    | 0 => callCondInstr .nz (word b2 b1)
    | 1 => callCondInstr .z (word b2 b1)
    | 2 => callCondInstr .nc (word b2 b1)
    | 3 => callCondInstr .c (word b2 b1)
    | 4 => .undefinedE4
    | 5 => .undefinedEC
    | 6 => .undefinedF4
    | 7 => .undefinedFC
  | 5 =>
    match fieldQ op with
    | 0 => pushInstr (stackPairOfCode (fieldP op))
    | 1 =>
      match fieldP op with
      | 0 => .call (word b2 b1)
      | 1 => .undefinedDD
      | 2 => .undefinedED
      | 3 => .undefinedFD
  | 6 => aluImmInstr (aluOfCode (fieldY op)) b1
  | 7 => rstInstr (fieldY op)

/-- The instruction whose first three bytes are `op`, `b1`, `b2`; an instruction shorter than three bytes ignores the rest.
Total: every byte 0 has a row, the eleven unassigned ones included (R113). A word operand is low byte first (R103). -/
def decodeBytes (op b1 b2 : Byte) : Instr :=
  match fieldX op with
  | 0 => decodeBlock0 op b1 b2
  | 1 => ldInstr (r8OfCode (fieldY op)) (r8OfCode (fieldZ op))
  | 2 => aluInstr (aluOfCode (fieldY op)) (r8OfCode (fieldZ op))
  | 3 => decodeBlock3 op b1 b2

/-- Byte 0 of the three-byte instructions (R112). -/
def threeByteOpcodes : List Byte :=
  [0x01, 0x11, 0x21, 0x31, 0x08, 0xC2, 0xCA, 0xD2, 0xDA, 0xC3, 0xC4, 0xCC, 0xD4, 0xDC, 0xCD, 0xEA, 0xFA]

/-- Byte 0 of the two-byte instructions (R112): formats `OP_N8`, `OP_E8` and `CB`. -/
def twoByteOpcodes : List Byte :=
  [0x06, 0x0E, 0x16, 0x1E, 0x26, 0x2E, 0x36, 0x3E, 0xC6, 0xCE, 0xD6, 0xDE, 0xE6, 0xEE, 0xF6, 0xFE, 0xE0, 0xF0]
    ++ [0x18, 0x20, 0x28, 0x30, 0x38, 0xE8, 0xF8, 0xCB]

/-- The length of an instruction from its byte 0 (R100, R112). The opcodes that fault are one byte long here: they read
nothing behind byte 0 (46_system.md R302, R306). -/
def opcodeLength (op : Byte) : Nat :=
  if op ∈ threeByteOpcodes then 3 else if op ∈ twoByteOpcodes then 2 else 1

/-- Why a list of bytes does not begin with an instruction. -/
inductive DecodeError where
  /-- There is no byte at all. -/
  | noByte
  /-- Byte 0 is there and an operand byte it calls for is not. -/
  | truncated (op : Byte)
deriving DecidableEq, Repr

/-- The instruction at the head of a list of bytes, and the bytes behind it. -/
def decode (bytes : List Byte) : Except DecodeError (Instr × List Byte) :=
  match bytes with
  | [] => .error .noByte
  | op :: rest =>
    if rest.length + 1 < opcodeLength op then .error (.truncated op)
    else .ok (decodeBytes op (rest.getD 0 0) (rest.getD 1 0), rest.drop (opcodeLength op - 1))

/-! ### The encoder, written from the opcode maps (R110, R111) by opcode value -/

/-- The operand code of `r8[i]` (R104). -/
def R8.code : R8 → Fin 8
  | .reg .b => 0
  | .reg .c => 1
  | .reg .d => 2
  | .reg .e => 3
  | .reg .h => 4
  | .reg .l => 5
  | .atHL => 6
  | .reg .a => 7

/-- The secondary opcode `x*64 + y*8 + z` (R111). -/
def secondaryByte (x : Fin 4) (y z : Fin 8) : Byte := BitVec.ofNat 8 (x.val * 64 + y.val * 8 + z.val)

/-- The bytes of an instruction, byte 0 first (R101). The prefix byte by itself is byte 0 alone. -/
def encode (i : Instr) : List Byte :=
  match i with
  | .nop => [0x00]
  | .ldBC_n16 n16 => [0x01, lo n16, hi n16]
  | .ldAtBC_A => [0x02]
  | .incBC => [0x03]
  | .incB => [0x04]
  | .decB => [0x05]
  | .ldB_n8 n8 => [0x06, n8]
  | .rlca => [0x07]
  | .ldA16_SP a16 => [0x08, lo a16, hi a16]
  | .addHL_BC => [0x09]
  | .ldA_AtBC => [0x0A]
  | .decBC => [0x0B]
  | .incC => [0x0C]
  | .decC => [0x0D]
  | .ldC_n8 n8 => [0x0E, n8]
  | .rrca => [0x0F]
  | .stop => [0x10]
  | .ldDE_n16 n16 => [0x11, lo n16, hi n16]
  | .ldAtDE_A => [0x12]
  | .incDE => [0x13]
  | .incD => [0x14]
  | .decD => [0x15]
  | .ldD_n8 n8 => [0x16, n8]
  | .rla => [0x17]
  | .jr e8 => [0x18, e8]
  | .addHL_DE => [0x19]
  | .ldA_AtDE => [0x1A]
  | .decDE => [0x1B]
  | .incE => [0x1C]
  | .decE => [0x1D]
  | .ldE_n8 n8 => [0x1E, n8]
  | .rra => [0x1F]
  | .jrNZ e8 => [0x20, e8]
  | .ldHL_n16 n16 => [0x21, lo n16, hi n16]
  | .ldAtHLInc_A => [0x22]
  | .incHL => [0x23]
  | .incH => [0x24]
  | .decH => [0x25]
  | .ldH_n8 n8 => [0x26, n8]
  | .daa => [0x27]
  | .jrZ e8 => [0x28, e8]
  | .addHL_HL => [0x29]
  | .ldA_AtHLInc => [0x2A]
  | .decHL => [0x2B]
  | .incL => [0x2C]
  | .decL => [0x2D]
  | .ldL_n8 n8 => [0x2E, n8]
  | .cpl => [0x2F]
  | .jrNC e8 => [0x30, e8]
  | .ldSP_n16 n16 => [0x31, lo n16, hi n16]
  | .ldAtHLDec_A => [0x32]
  | .incSP => [0x33]
  | .incAtHL => [0x34]
  | .decAtHL => [0x35]
  | .ldAtHL_n8 n8 => [0x36, n8]
  | .scf => [0x37]
  | .jrC e8 => [0x38, e8]
  | .addHL_SP => [0x39]
  | .ldA_AtHLDec => [0x3A]
  | .decSP => [0x3B]
  | .incA => [0x3C]
  | .decA => [0x3D]
  | .ldA_n8 n8 => [0x3E, n8]
  | .ccf => [0x3F]
  | .ldB_B => [0x40]
  | .ldB_C => [0x41]
  | .ldB_D => [0x42]
  | .ldB_E => [0x43]
  | .ldB_H => [0x44]
  | .ldB_L => [0x45]
  | .ldB_AtHL => [0x46]
  | .ldB_A => [0x47]
  | .ldC_B => [0x48]
  | .ldC_C => [0x49]
  | .ldC_D => [0x4A]
  | .ldC_E => [0x4B]
  | .ldC_H => [0x4C]
  | .ldC_L => [0x4D]
  | .ldC_AtHL => [0x4E]
  | .ldC_A => [0x4F]
  | .ldD_B => [0x50]
  | .ldD_C => [0x51]
  | .ldD_D => [0x52]
  | .ldD_E => [0x53]
  | .ldD_H => [0x54]
  | .ldD_L => [0x55]
  | .ldD_AtHL => [0x56]
  | .ldD_A => [0x57]
  | .ldE_B => [0x58]
  | .ldE_C => [0x59]
  | .ldE_D => [0x5A]
  | .ldE_E => [0x5B]
  | .ldE_H => [0x5C]
  | .ldE_L => [0x5D]
  | .ldE_AtHL => [0x5E]
  | .ldE_A => [0x5F]
  | .ldH_B => [0x60]
  | .ldH_C => [0x61]
  | .ldH_D => [0x62]
  | .ldH_E => [0x63]
  | .ldH_H => [0x64]
  | .ldH_L => [0x65]
  | .ldH_AtHL => [0x66]
  | .ldH_A => [0x67]
  | .ldL_B => [0x68]
  | .ldL_C => [0x69]
  | .ldL_D => [0x6A]
  | .ldL_E => [0x6B]
  | .ldL_H => [0x6C]
  | .ldL_L => [0x6D]
  | .ldL_AtHL => [0x6E]
  | .ldL_A => [0x6F]
  | .ldAtHL_B => [0x70]
  | .ldAtHL_C => [0x71]
  | .ldAtHL_D => [0x72]
  | .ldAtHL_E => [0x73]
  | .ldAtHL_H => [0x74]
  | .ldAtHL_L => [0x75]
  | .halt => [0x76]
  | .ldAtHL_A => [0x77]
  | .ldA_B => [0x78]
  | .ldA_C => [0x79]
  | .ldA_D => [0x7A]
  | .ldA_E => [0x7B]
  | .ldA_H => [0x7C]
  | .ldA_L => [0x7D]
  | .ldA_AtHL => [0x7E]
  | .ldA_A => [0x7F]
  | .addA_B => [0x80]
  | .addA_C => [0x81]
  | .addA_D => [0x82]
  | .addA_E => [0x83]
  | .addA_H => [0x84]
  | .addA_L => [0x85]
  | .addA_AtHL => [0x86]
  | .addA_A => [0x87]
  | .adcA_B => [0x88]
  | .adcA_C => [0x89]
  | .adcA_D => [0x8A]
  | .adcA_E => [0x8B]
  | .adcA_H => [0x8C]
  | .adcA_L => [0x8D]
  | .adcA_AtHL => [0x8E]
  | .adcA_A => [0x8F]
  | .subB => [0x90]
  | .subC => [0x91]
  | .subD => [0x92]
  | .subE => [0x93]
  | .subH => [0x94]
  | .subL => [0x95]
  | .subAtHL => [0x96]
  | .subA => [0x97]
  | .sbcA_B => [0x98]
  | .sbcA_C => [0x99]
  | .sbcA_D => [0x9A]
  | .sbcA_E => [0x9B]
  | .sbcA_H => [0x9C]
  | .sbcA_L => [0x9D]
  | .sbcA_AtHL => [0x9E]
  | .sbcA_A => [0x9F]
  | .andB => [0xA0]
  | .andC => [0xA1]
  | .andD => [0xA2]
  | .andE => [0xA3]
  | .andH => [0xA4]
  | .andL => [0xA5]
  | .andAtHL => [0xA6]
  | .andA => [0xA7]
  | .xorB => [0xA8]
  | .xorC => [0xA9]
  | .xorD => [0xAA]
  | .xorE => [0xAB]
  | .xorH => [0xAC]
  | .xorL => [0xAD]
  | .xorAtHL => [0xAE]
  | .xorA => [0xAF]
  | .orB => [0xB0]
  | .orC => [0xB1]
  | .orD => [0xB2]
  | .orE => [0xB3]
  | .orH => [0xB4]
  | .orL => [0xB5]
  | .orAtHL => [0xB6]
  | .orA => [0xB7]
  | .cpB => [0xB8]
  | .cpC => [0xB9]
  | .cpD => [0xBA]
  | .cpE => [0xBB]
  | .cpH => [0xBC]
  | .cpL => [0xBD]
  | .cpAtHL => [0xBE]
  | .cpA => [0xBF]
  | .retNZ => [0xC0]
  | .popBC => [0xC1]
  | .jpNZ a16 => [0xC2, lo a16, hi a16]
  | .jp a16 => [0xC3, lo a16, hi a16]
  | .callNZ a16 => [0xC4, lo a16, hi a16]
  | .pushBC => [0xC5]
  | .addA_n8 n8 => [0xC6, n8]
  | .rst00 => [0xC7]
  | .retZ => [0xC8]
  | .ret => [0xC9]
  | .jpZ a16 => [0xCA, lo a16, hi a16]
  | .prefixCB => [0xCB]
  | .callZ a16 => [0xCC, lo a16, hi a16]
  | .call a16 => [0xCD, lo a16, hi a16]
  | .adcA_n8 n8 => [0xCE, n8]
  | .rst08 => [0xCF]
  | .retNC => [0xD0]
  | .popDE => [0xD1]
  | .jpNC a16 => [0xD2, lo a16, hi a16]
  | .undefinedD3 => [0xD3]
  | .callNC a16 => [0xD4, lo a16, hi a16]
  | .pushDE => [0xD5]
  | .sub_n8 n8 => [0xD6, n8]
  | .rst10 => [0xD7]
  | .retC => [0xD8]
  | .reti => [0xD9]
  | .jpC a16 => [0xDA, lo a16, hi a16]
  | .undefinedDB => [0xDB]
  | .callC a16 => [0xDC, lo a16, hi a16]
  | .undefinedDD => [0xDD]
  | .sbcA_n8 n8 => [0xDE, n8]
  | .rst18 => [0xDF]
  | .ldhA8_A a8 => [0xE0, a8]
  | .popHL => [0xE1]
  | .ldAtC_A => [0xE2]
  | .undefinedE3 => [0xE3]
  | .undefinedE4 => [0xE4]
  | .pushHL => [0xE5]
  | .and_n8 n8 => [0xE6, n8]
  | .rst20 => [0xE7]
  | .addSP_e8 e8 => [0xE8, e8]
  | .jpHL => [0xE9]
  | .ldA16_A a16 => [0xEA, lo a16, hi a16]
  | .undefinedEB => [0xEB]
  | .undefinedEC => [0xEC]
  | .undefinedED => [0xED]
  | .xor_n8 n8 => [0xEE, n8]
  | .rst28 => [0xEF]
  | .ldhA_A8 a8 => [0xF0, a8]
  | .popAF => [0xF1]
  | .ldA_AtC => [0xF2]
  | .di => [0xF3]
  | .undefinedF4 => [0xF4]
  | .pushAF => [0xF5]
  | .or_n8 n8 => [0xF6, n8]
  | .rst30 => [0xF7]
  | .ldHL_SPe8 e8 => [0xF8, e8]
  | .ldSP_HL => [0xF9]
  | .ldA_A16 a16 => [0xFA, lo a16, hi a16]
  | .ei => [0xFB]
  | .undefinedFC => [0xFC]
  | .undefinedFD => [0xFD]
  | .cp_n8 n8 => [0xFE, n8]
  | .rst38 => [0xFF]
  | .rlc x => [0xCB, secondaryByte 0 0 x.code]
  | .rrc x => [0xCB, secondaryByte 0 1 x.code]
  | .rl x => [0xCB, secondaryByte 0 2 x.code]
  | .rr x => [0xCB, secondaryByte 0 3 x.code]
  | .sla x => [0xCB, secondaryByte 0 4 x.code]
  | .sra x => [0xCB, secondaryByte 0 5 x.code]
  | .swap x => [0xCB, secondaryByte 0 6 x.code]
  | .srl x => [0xCB, secondaryByte 0 7 x.code]
  | .bit b x => [0xCB, secondaryByte 1 b x.code]
  | .res b x => [0xCB, secondaryByte 2 b x.code]
  | .set b x => [0xCB, secondaryByte 3 b x.code]

/-! ### The opcode table's words -/

/-- The three bytes of a word numbered as spec/opcode_table.json numbers its rows. A secondary row is read as
`(byte0 << 8) or byte1` (30_encoding.md R119), so a 16-bit word whose high byte is 0xCB has its first byte there; every other
word has its first byte in bits 7 to 0. DEDUCED (notes/assumptions/9.md). -/
def tableBytes (nbits w : Nat) : List Byte :=
  if nbits = 16 ∧ w / 256 % 256 = 0xCB then [BitVec.ofNat 8 (w / 256), BitVec.ofNat 8 w, 0]
  else [BitVec.ofNat 8 w, BitVec.ofNat 8 (w / 256), BitVec.ofNat 8 (w / 65536)]

/-- The instruction the decoder reads from a word of the opcode table. -/
def decodeTableWord (nbits w : Nat) : Option Instr :=
  match decode (tableBytes nbits w) with
  | .ok (i, _) => some i
  | .error _ => none

end Sys2Proof
end

