-- ==== Sys2Proof/Machine/Fetch.lean ====
section
/-! DEFINITION. Fetching the instruction at `PC` (00_scope.md R16, 30_encoding.md R103) and `ADMITTED_OPCODES` (46_system.md R307). -/

namespace Sys2Proof.Machine

/-- The opcodes `ADMITTED_OPCODES` may not leave out: the three the source pins and the prefix (46_system.md R307). -/
def pinnedOpcodes : List Byte := [0x00, 0xAF, 0xC3, 0xCB]

/-- Whether a primary opcode is in `ADMITTED_OPCODES` (R307). -/
def Launch.admitsPrimary (p : Launch) (op : Byte) : Bool :=
  pinnedOpcodes.contains op || !p.excludedPrimary.contains op

/-- Whether a secondary opcode is in `ADMITTED_OPCODES` (R307). -/
def Launch.admitsSecondary (p : Launch) (op2 : Byte) : Bool := !p.excludedSecondary.contains op2

/-- The instruction at `PC`: byte 0 at `PC`, operand bytes at `PC + 1`, `PC + 2`, addresses modulo 65536 (R103), each read through
the MMU (20_memory.md R51). A byte the format does not call for is read and ignored: a read changes nothing
(R82; notes/assumptions/11.md). -/
def State.instrAt (s : State) : Instr := decodeBytes (s.read s.pc) (s.read (s.pc + 1)) (s.read (s.pc + 2))

/-- The instruction the step executes, or the opcode byte dispatch finds no defined instruction for because
`ADMITTED_OPCODES` leaves it out: the primary opcode first, then `op2` (60_exceptions.md R320, R328). -/
def State.fetch (s : State) : Except Byte Instr :=
  let op := s.read s.pc
  let op2 := s.read (s.pc + 1)
  if s.launch.admitsPrimary op = false then .error op
  else if op = 0xCB ∧ s.launch.admitsSecondary op2 = false then .error op2
  else .ok s.instrAt

end Sys2Proof.Machine
end

