-- ==== Sys2Proof/Machine/Rotate.lean ====
section
/-! DEFINITION. Rotate, shift and bit instructions (spec/44_rotate_bit.md), and the prefix byte that selects them
(46_system.md R305). -/

namespace Sys2Proof.Machine

/-- An accumulator rotate: `A` and the flags `0 0 0 *` (R240 to R243). -/
def rotateA (x : Shifted) (s : State) : Res := done 1 4 { s.setFlags false false false x.c with a := x.r }

/-- What a secondary instruction that writes its operand costs (44_rotate_bit.md, common note). -/
def modifyCycles : R8 → Byte
  | .reg _ => 8
  | .atHL => 16

/-- A rotate or shift of `r8[z]`: the operand is written back, then the flags `* 0 0 *`, in the order of the pseudocode
(R244 to R251; notes/assumptions/10.md). -/
def rotateR8 (op : Byte → Shifted) (x : R8) (s : State) : Res :=
  let y := op (s.readR8 x)
  andThen (writeR8 x y.r s) fun t => done 2 (modifyCycles x) (t.setFlags (y.r == 0) false false y.c)

/-- `BIT b,r8[z]`: flags `* 0 1 -`, nothing written (R252). -/
def testBit (b : Fin 8) (x : R8) (s : State) : Res :=
  done 2 (match x with | .reg _ => 8 | .atHL => 12) (s.setFlags (!bit (s.readR8 x) b) false true s.flagC)

/-- `RES` and `SET`: the operand with one bit changed is written back, no flag is touched (R253, R254). -/
def modifyR8 (op : Byte → Byte) (x : R8) (s : State) : Res :=
  andThen (writeR8 x (op (s.readR8 x)) s) fun t => done 2 (modifyCycles x) t

/-- `RLCA` (R240). -/
def execRlca (s : State) : Res := rotateA (rotateLeft s.a) s

/-- `RRCA` (R241). -/
def execRrca (s : State) : Res := rotateA (rotateRight s.a) s

/-- `RLA` (R242). -/
def execRla (s : State) : Res := rotateA (rotateLeftThrough s.a s.flagC) s

/-- `RRA` (R243). -/
def execRra (s : State) : Res := rotateA (rotateRightThrough s.a s.flagC) s

/-- `RLC r8` (R244). -/
def execRlc (x : R8) (s : State) : Res := rotateR8 (fun v => rotateLeft v) x s

/-- `RRC r8` (R245). -/
def execRrc (x : R8) (s : State) : Res := rotateR8 (fun v => rotateRight v) x s

/-- `RL r8` (R246). -/
def execRl (x : R8) (s : State) : Res := rotateR8 (fun v => rotateLeftThrough v s.flagC) x s

/-- `RR r8` (R247). -/
def execRr (x : R8) (s : State) : Res := rotateR8 (fun v => rotateRightThrough v s.flagC) x s

/-- `SLA r8` (R248). -/
def execSla (x : R8) (s : State) : Res := rotateR8 (fun v => shiftLeft v) x s

/-- `SRA r8` (R249). -/
def execSra (x : R8) (s : State) : Res := rotateR8 (fun v => shiftRightArithmetic v) x s

/-- `SWAP r8` (R250). -/
def execSwap (x : R8) (s : State) : Res := rotateR8 (fun v => swapNibbles v) x s

/-- `SRL r8` (R251). -/
def execSrl (x : R8) (s : State) : Res := rotateR8 (fun v => shiftRightLogical v) x s

/-- `BIT b,r8` (R252). -/
def execBit (b : Fin 8) (x : R8) (s : State) : Res := testBit b x s

/-- `RES b,r8` (R253). -/
def execRes (b : Fin 8) (x : R8) (s : State) : Res := modifyR8 (fun v => clearBit v b) x s

/-- `SET b,r8` (R254). -/
def execSet (b : Fin 8) (x : R8) (s : State) : Res := modifyR8 (fun v => setBit v b) x s

/-- The instruction the secondary table assigns to `op2`, executed (30_encoding.md R111). -/
def execSecondary (op2 : Byte) (s : State) : Res :=
  let x := r8OfCode (fieldZ op2)
  match fieldX op2 with
  | 0 =>
    match fieldY op2 with
    | 0 => execRlc x s
    | 1 => execRrc x s
    | 2 => execRl x s
    | 3 => execRr x s
    | 4 => execSla x s
    | 5 => execSra x s
    | 6 => execSwap x s
    | 7 => execSrl x s
  | 1 => execBit (fieldY op2) x s
  | 2 => execRes (fieldY op2) x s
  | 3 => execSet (fieldY op2) x s

/-- `PREFIX CB` (46_system.md R305): `op2 <- MemRead(PC + 1, 1)`, then the instruction the secondary table assigns to it, the pair
being one instruction. An `op2` left out of `ADMITTED_OPCODES` raises (R307). The decoder reads `op2` itself and so gives the
secondary instruction, not this term (notes/assumptions/8.md). -/
def execPrefixCB (s : State) : Res :=
  let op2 := s.read (s.pc + 1)
  if s.launch.admitsSecondary op2 then execSecondary op2 s else raise (.unimplementedOpcode op2 s.pc) s

end Sys2Proof.Machine
end

