-- ==== Sys2Proof/Machine/System.lean ====
section
/-! DEFINITION. No-op, interrupt-enable and unimplemented opcodes (spec/46_system.md). -/

namespace Sys2Proof.Machine

/-- `NOP` (R300). -/
def execNop (s : State) : Res := done 1 4 s

/-- `STOP` (R302). -/
def execStop (s : State) : Res := raise (.unimplementedOpcode 0x10 s.pc) s

/-- `HALT` (R301). -/
def execHalt (s : State) : Res := raise (.unimplementedOpcode 0x76 s.pc) s

/-- 0xD3, an unassigned opcode (R306). -/
def execUndefinedD3 (s : State) : Res := raise (.unimplementedOpcode 0xD3 s.pc) s

/-- 0xDB, an unassigned opcode (R306). -/
def execUndefinedDB (s : State) : Res := raise (.unimplementedOpcode 0xDB s.pc) s

/-- 0xDD, an unassigned opcode (R306). -/
def execUndefinedDD (s : State) : Res := raise (.unimplementedOpcode 0xDD s.pc) s

/-- 0xE3, an unassigned opcode (R306). -/
def execUndefinedE3 (s : State) : Res := raise (.unimplementedOpcode 0xE3 s.pc) s

/-- 0xE4, an unassigned opcode (R306). -/
def execUndefinedE4 (s : State) : Res := raise (.unimplementedOpcode 0xE4 s.pc) s

/-- 0xEB, an unassigned opcode (R306). -/
def execUndefinedEB (s : State) : Res := raise (.unimplementedOpcode 0xEB s.pc) s

/-- 0xEC, an unassigned opcode (R306). -/
def execUndefinedEC (s : State) : Res := raise (.unimplementedOpcode 0xEC s.pc) s

/-- 0xED, an unassigned opcode (R306). -/
def execUndefinedED (s : State) : Res := raise (.unimplementedOpcode 0xED s.pc) s

/-- `DI` (R303). -/
def execDi (s : State) : Res := done 1 4 { s with ime := false }

/-- 0xF4, an unassigned opcode (R306). -/
def execUndefinedF4 (s : State) : Res := raise (.unimplementedOpcode 0xF4 s.pc) s

/-- `EI` (R304). -/
def execEi (s : State) : Res := done 1 4 { s with ime := true }

/-- 0xFC, an unassigned opcode (R306). -/
def execUndefinedFC (s : State) : Res := raise (.unimplementedOpcode 0xFC s.pc) s

/-- 0xFD, an unassigned opcode (R306). -/
def execUndefinedFD (s : State) : Res := raise (.unimplementedOpcode 0xFD s.pc) s

end Sys2Proof.Machine
end

