-- ==== Sys2Proof/Machine/Dispatch.lean ====
section
/-! DEFINITION. The one match from an instruction to its meaning. -/

namespace Sys2Proof.Machine

def exec (i : Instr) (s : State) : Host.Outcome State Fault Refusal :=
  match i with
  | .nop => Sys2Proof.Machine.execNop s
  | .ldBC_n16 n16 => Sys2Proof.Machine.execLdBC_n16 n16 s
  | .ldAtBC_A => Sys2Proof.Machine.execLdAtBC_A s
  | .incBC => Sys2Proof.Machine.execIncBC s
  | .incB => Sys2Proof.Machine.execIncB s
  | .decB => Sys2Proof.Machine.execDecB s
  | .ldB_n8 n8 => Sys2Proof.Machine.execLdB_n8 n8 s
  | .rlca => Sys2Proof.Machine.execRlca s
  | .ldA16_SP a16 => Sys2Proof.Machine.execLdA16_SP a16 s
  | .addHL_BC => Sys2Proof.Machine.execAddHL_BC s
  | .ldA_AtBC => Sys2Proof.Machine.execLdA_AtBC s
  | .decBC => Sys2Proof.Machine.execDecBC s
  | .incC => Sys2Proof.Machine.execIncC s
  | .decC => Sys2Proof.Machine.execDecC s
  | .ldC_n8 n8 => Sys2Proof.Machine.execLdC_n8 n8 s
  | .rrca => Sys2Proof.Machine.execRrca s
  | .stop => Sys2Proof.Machine.execStop s
  | .ldDE_n16 n16 => Sys2Proof.Machine.execLdDE_n16 n16 s
  | .ldAtDE_A => Sys2Proof.Machine.execLdAtDE_A s
  | .incDE => Sys2Proof.Machine.execIncDE s
  | .incD => Sys2Proof.Machine.execIncD s
  | .decD => Sys2Proof.Machine.execDecD s
  | .ldD_n8 n8 => Sys2Proof.Machine.execLdD_n8 n8 s
  | .rla => Sys2Proof.Machine.execRla s
  | .jr e8 => Sys2Proof.Machine.execJr e8 s
  | .addHL_DE => Sys2Proof.Machine.execAddHL_DE s
  | .ldA_AtDE => Sys2Proof.Machine.execLdA_AtDE s
  | .decDE => Sys2Proof.Machine.execDecDE s
  | .incE => Sys2Proof.Machine.execIncE s
  | .decE => Sys2Proof.Machine.execDecE s
  | .ldE_n8 n8 => Sys2Proof.Machine.execLdE_n8 n8 s
  | .rra => Sys2Proof.Machine.execRra s
  | .jrNZ e8 => Sys2Proof.Machine.execJrNZ e8 s
  | .ldHL_n16 n16 => Sys2Proof.Machine.execLdHL_n16 n16 s
  | .ldAtHLInc_A => Sys2Proof.Machine.execLdAtHLInc_A s
  | .incHL => Sys2Proof.Machine.execIncHL s
  | .incH => Sys2Proof.Machine.execIncH s
  | .decH => Sys2Proof.Machine.execDecH s
  | .ldH_n8 n8 => Sys2Proof.Machine.execLdH_n8 n8 s
  | .daa => Sys2Proof.Machine.execDaa s
  | .jrZ e8 => Sys2Proof.Machine.execJrZ e8 s
  | .addHL_HL => Sys2Proof.Machine.execAddHL_HL s
  | .ldA_AtHLInc => Sys2Proof.Machine.execLdA_AtHLInc s
  | .decHL => Sys2Proof.Machine.execDecHL s
  | .incL => Sys2Proof.Machine.execIncL s
  | .decL => Sys2Proof.Machine.execDecL s
  | .ldL_n8 n8 => Sys2Proof.Machine.execLdL_n8 n8 s
  | .cpl => Sys2Proof.Machine.execCpl s
  | .jrNC e8 => Sys2Proof.Machine.execJrNC e8 s
  | .ldSP_n16 n16 => Sys2Proof.Machine.execLdSP_n16 n16 s
  | .ldAtHLDec_A => Sys2Proof.Machine.execLdAtHLDec_A s
  | .incSP => Sys2Proof.Machine.execIncSP s
  | .incAtHL => Sys2Proof.Machine.execIncAtHL s
  | .decAtHL => Sys2Proof.Machine.execDecAtHL s
  | .ldAtHL_n8 n8 => Sys2Proof.Machine.execLdAtHL_n8 n8 s
  | .scf => Sys2Proof.Machine.execScf s
  | .jrC e8 => Sys2Proof.Machine.execJrC e8 s
  | .addHL_SP => Sys2Proof.Machine.execAddHL_SP s
  | .ldA_AtHLDec => Sys2Proof.Machine.execLdA_AtHLDec s
  | .decSP => Sys2Proof.Machine.execDecSP s
  | .incA => Sys2Proof.Machine.execIncA s
  | .decA => Sys2Proof.Machine.execDecA s
  | .ldA_n8 n8 => Sys2Proof.Machine.execLdA_n8 n8 s
  | .ccf => Sys2Proof.Machine.execCcf s
  | .ldB_B => Sys2Proof.Machine.execLdB_B s
  | .ldB_C => Sys2Proof.Machine.execLdB_C s
  | .ldB_D => Sys2Proof.Machine.execLdB_D s
  | .ldB_E => Sys2Proof.Machine.execLdB_E s
  | .ldB_H => Sys2Proof.Machine.execLdB_H s
  | .ldB_L => Sys2Proof.Machine.execLdB_L s
  | .ldB_AtHL => Sys2Proof.Machine.execLdB_AtHL s
  | .ldB_A => Sys2Proof.Machine.execLdB_A s
  | .ldC_B => Sys2Proof.Machine.execLdC_B s
  | .ldC_C => Sys2Proof.Machine.execLdC_C s
  | .ldC_D => Sys2Proof.Machine.execLdC_D s
  | .ldC_E => Sys2Proof.Machine.execLdC_E s
  | .ldC_H => Sys2Proof.Machine.execLdC_H s
  | .ldC_L => Sys2Proof.Machine.execLdC_L s
  | .ldC_AtHL => Sys2Proof.Machine.execLdC_AtHL s
  | .ldC_A => Sys2Proof.Machine.execLdC_A s
  | .ldD_B => Sys2Proof.Machine.execLdD_B s
  | .ldD_C => Sys2Proof.Machine.execLdD_C s
  | .ldD_D => Sys2Proof.Machine.execLdD_D s
  | .ldD_E => Sys2Proof.Machine.execLdD_E s
  | .ldD_H => Sys2Proof.Machine.execLdD_H s
  | .ldD_L => Sys2Proof.Machine.execLdD_L s
  | .ldD_AtHL => Sys2Proof.Machine.execLdD_AtHL s
  | .ldD_A => Sys2Proof.Machine.execLdD_A s
  | .ldE_B => Sys2Proof.Machine.execLdE_B s
  | .ldE_C => Sys2Proof.Machine.execLdE_C s
  | .ldE_D => Sys2Proof.Machine.execLdE_D s
  | .ldE_E => Sys2Proof.Machine.execLdE_E s
  | .ldE_H => Sys2Proof.Machine.execLdE_H s
  | .ldE_L => Sys2Proof.Machine.execLdE_L s
  | .ldE_AtHL => Sys2Proof.Machine.execLdE_AtHL s
  | .ldE_A => Sys2Proof.Machine.execLdE_A s
  | .ldH_B => Sys2Proof.Machine.execLdH_B s
  | .ldH_C => Sys2Proof.Machine.execLdH_C s
  | .ldH_D => Sys2Proof.Machine.execLdH_D s
  | .ldH_E => Sys2Proof.Machine.execLdH_E s
  | .ldH_H => Sys2Proof.Machine.execLdH_H s
  | .ldH_L => Sys2Proof.Machine.execLdH_L s
  | .ldH_AtHL => Sys2Proof.Machine.execLdH_AtHL s
  | .ldH_A => Sys2Proof.Machine.execLdH_A s
  | .ldL_B => Sys2Proof.Machine.execLdL_B s
  | .ldL_C => Sys2Proof.Machine.execLdL_C s
  | .ldL_D => Sys2Proof.Machine.execLdL_D s
  | .ldL_E => Sys2Proof.Machine.execLdL_E s
  | .ldL_H => Sys2Proof.Machine.execLdL_H s
  | .ldL_L => Sys2Proof.Machine.execLdL_L s
  | .ldL_AtHL => Sys2Proof.Machine.execLdL_AtHL s
  | .ldL_A => Sys2Proof.Machine.execLdL_A s
  | .ldAtHL_B => Sys2Proof.Machine.execLdAtHL_B s
  | .ldAtHL_C => Sys2Proof.Machine.execLdAtHL_C s
  | .ldAtHL_D => Sys2Proof.Machine.execLdAtHL_D s
  | .ldAtHL_E => Sys2Proof.Machine.execLdAtHL_E s
  | .ldAtHL_H => Sys2Proof.Machine.execLdAtHL_H s
  | .ldAtHL_L => Sys2Proof.Machine.execLdAtHL_L s
  | .halt => Sys2Proof.Machine.execHalt s
  | .ldAtHL_A => Sys2Proof.Machine.execLdAtHL_A s
  | .ldA_B => Sys2Proof.Machine.execLdA_B s
  | .ldA_C => Sys2Proof.Machine.execLdA_C s
  | .ldA_D => Sys2Proof.Machine.execLdA_D s
  | .ldA_E => Sys2Proof.Machine.execLdA_E s
  | .ldA_H => Sys2Proof.Machine.execLdA_H s
  | .ldA_L => Sys2Proof.Machine.execLdA_L s
  | .ldA_AtHL => Sys2Proof.Machine.execLdA_AtHL s
  | .ldA_A => Sys2Proof.Machine.execLdA_A s
  | .addA_B => Sys2Proof.Machine.execAddA_B s
  | .addA_C => Sys2Proof.Machine.execAddA_C s
  | .addA_D => Sys2Proof.Machine.execAddA_D s
  | .addA_E => Sys2Proof.Machine.execAddA_E s
  | .addA_H => Sys2Proof.Machine.execAddA_H s
  | .addA_L => Sys2Proof.Machine.execAddA_L s
  | .addA_AtHL => Sys2Proof.Machine.execAddA_AtHL s
  | .addA_A => Sys2Proof.Machine.execAddA_A s
  | .adcA_B => Sys2Proof.Machine.execAdcA_B s
  | .adcA_C => Sys2Proof.Machine.execAdcA_C s
  | .adcA_D => Sys2Proof.Machine.execAdcA_D s
  | .adcA_E => Sys2Proof.Machine.execAdcA_E s
  | .adcA_H => Sys2Proof.Machine.execAdcA_H s
  | .adcA_L => Sys2Proof.Machine.execAdcA_L s
  | .adcA_AtHL => Sys2Proof.Machine.execAdcA_AtHL s
  | .adcA_A => Sys2Proof.Machine.execAdcA_A s
  | .subB => Sys2Proof.Machine.execSubB s
  | .subC => Sys2Proof.Machine.execSubC s
  | .subD => Sys2Proof.Machine.execSubD s
  | .subE => Sys2Proof.Machine.execSubE s
  | .subH => Sys2Proof.Machine.execSubH s
  | .subL => Sys2Proof.Machine.execSubL s
  | .subAtHL => Sys2Proof.Machine.execSubAtHL s
  | .subA => Sys2Proof.Machine.execSubA s
  | .sbcA_B => Sys2Proof.Machine.execSbcA_B s
  | .sbcA_C => Sys2Proof.Machine.execSbcA_C s
  | .sbcA_D => Sys2Proof.Machine.execSbcA_D s
  | .sbcA_E => Sys2Proof.Machine.execSbcA_E s
  | .sbcA_H => Sys2Proof.Machine.execSbcA_H s
  | .sbcA_L => Sys2Proof.Machine.execSbcA_L s
  | .sbcA_AtHL => Sys2Proof.Machine.execSbcA_AtHL s
  | .sbcA_A => Sys2Proof.Machine.execSbcA_A s
  | .andB => Sys2Proof.Machine.execAndB s
  | .andC => Sys2Proof.Machine.execAndC s
  | .andD => Sys2Proof.Machine.execAndD s
  | .andE => Sys2Proof.Machine.execAndE s
  | .andH => Sys2Proof.Machine.execAndH s
  | .andL => Sys2Proof.Machine.execAndL s
  | .andAtHL => Sys2Proof.Machine.execAndAtHL s
  | .andA => Sys2Proof.Machine.execAndA s
  | .xorB => Sys2Proof.Machine.execXorB s
  | .xorC => Sys2Proof.Machine.execXorC s
  | .xorD => Sys2Proof.Machine.execXorD s
  | .xorE => Sys2Proof.Machine.execXorE s
  | .xorH => Sys2Proof.Machine.execXorH s
  | .xorL => Sys2Proof.Machine.execXorL s
  | .xorAtHL => Sys2Proof.Machine.execXorAtHL s
  | .xorA => Sys2Proof.Machine.execXorA s
  | .orB => Sys2Proof.Machine.execOrB s
  | .orC => Sys2Proof.Machine.execOrC s
  | .orD => Sys2Proof.Machine.execOrD s
  | .orE => Sys2Proof.Machine.execOrE s
  | .orH => Sys2Proof.Machine.execOrH s
  | .orL => Sys2Proof.Machine.execOrL s
  | .orAtHL => Sys2Proof.Machine.execOrAtHL s
  | .orA => Sys2Proof.Machine.execOrA s
  | .cpB => Sys2Proof.Machine.execCpB s
  | .cpC => Sys2Proof.Machine.execCpC s
  | .cpD => Sys2Proof.Machine.execCpD s
  | .cpE => Sys2Proof.Machine.execCpE s
  | .cpH => Sys2Proof.Machine.execCpH s
  | .cpL => Sys2Proof.Machine.execCpL s
  | .cpAtHL => Sys2Proof.Machine.execCpAtHL s
  | .cpA => Sys2Proof.Machine.execCpA s
  | .retNZ => Sys2Proof.Machine.execRetNZ s
  | .popBC => Sys2Proof.Machine.execPopBC s
  | .jpNZ a16 => Sys2Proof.Machine.execJpNZ a16 s
  | .jp a16 => Sys2Proof.Machine.execJp a16 s
  | .callNZ a16 => Sys2Proof.Machine.execCallNZ a16 s
  | .pushBC => Sys2Proof.Machine.execPushBC s
  | .addA_n8 n8 => Sys2Proof.Machine.execAddA_n8 n8 s
  | .rst00 => Sys2Proof.Machine.execRst00 s
  | .retZ => Sys2Proof.Machine.execRetZ s
  | .ret => Sys2Proof.Machine.execRet s
  | .jpZ a16 => Sys2Proof.Machine.execJpZ a16 s
  | .prefixCB => Sys2Proof.Machine.execPrefixCB s
  | .callZ a16 => Sys2Proof.Machine.execCallZ a16 s
  | .call a16 => Sys2Proof.Machine.execCall a16 s
  | .adcA_n8 n8 => Sys2Proof.Machine.execAdcA_n8 n8 s
  | .rst08 => Sys2Proof.Machine.execRst08 s
  | .retNC => Sys2Proof.Machine.execRetNC s
  | .popDE => Sys2Proof.Machine.execPopDE s
  | .jpNC a16 => Sys2Proof.Machine.execJpNC a16 s
  | .undefinedD3 => Sys2Proof.Machine.execUndefinedD3 s
  | .callNC a16 => Sys2Proof.Machine.execCallNC a16 s
  | .pushDE => Sys2Proof.Machine.execPushDE s
  | .sub_n8 n8 => Sys2Proof.Machine.execSub_n8 n8 s
  | .rst10 => Sys2Proof.Machine.execRst10 s
  | .retC => Sys2Proof.Machine.execRetC s
  | .reti => Sys2Proof.Machine.execReti s
  | .jpC a16 => Sys2Proof.Machine.execJpC a16 s
  | .undefinedDB => Sys2Proof.Machine.execUndefinedDB s
  | .callC a16 => Sys2Proof.Machine.execCallC a16 s
  | .undefinedDD => Sys2Proof.Machine.execUndefinedDD s
  | .sbcA_n8 n8 => Sys2Proof.Machine.execSbcA_n8 n8 s
  | .rst18 => Sys2Proof.Machine.execRst18 s
  | .ldhA8_A a8 => Sys2Proof.Machine.execLdhA8_A a8 s
  | .popHL => Sys2Proof.Machine.execPopHL s
  | .ldAtC_A => Sys2Proof.Machine.execLdAtC_A s
  | .undefinedE3 => Sys2Proof.Machine.execUndefinedE3 s
  | .undefinedE4 => Sys2Proof.Machine.execUndefinedE4 s
  | .pushHL => Sys2Proof.Machine.execPushHL s
  | .and_n8 n8 => Sys2Proof.Machine.execAnd_n8 n8 s
  | .rst20 => Sys2Proof.Machine.execRst20 s
  | .addSP_e8 e8 => Sys2Proof.Machine.execAddSP_e8 e8 s
  | .jpHL => Sys2Proof.Machine.execJpHL s
  | .ldA16_A a16 => Sys2Proof.Machine.execLdA16_A a16 s
  | .undefinedEB => Sys2Proof.Machine.execUndefinedEB s
  | .undefinedEC => Sys2Proof.Machine.execUndefinedEC s
  | .undefinedED => Sys2Proof.Machine.execUndefinedED s
  | .xor_n8 n8 => Sys2Proof.Machine.execXor_n8 n8 s
  | .rst28 => Sys2Proof.Machine.execRst28 s
  | .ldhA_A8 a8 => Sys2Proof.Machine.execLdhA_A8 a8 s
  | .popAF => Sys2Proof.Machine.execPopAF s
  | .ldA_AtC => Sys2Proof.Machine.execLdA_AtC s
  | .di => Sys2Proof.Machine.execDi s
  | .undefinedF4 => Sys2Proof.Machine.execUndefinedF4 s
  | .pushAF => Sys2Proof.Machine.execPushAF s
  | .or_n8 n8 => Sys2Proof.Machine.execOr_n8 n8 s
  | .rst30 => Sys2Proof.Machine.execRst30 s
  | .ldHL_SPe8 e8 => Sys2Proof.Machine.execLdHL_SPe8 e8 s
  | .ldSP_HL => Sys2Proof.Machine.execLdSP_HL s
  | .ldA_A16 a16 => Sys2Proof.Machine.execLdA_A16 a16 s
  | .ei => Sys2Proof.Machine.execEi s
  | .undefinedFC => Sys2Proof.Machine.execUndefinedFC s
  | .undefinedFD => Sys2Proof.Machine.execUndefinedFD s
  | .cp_n8 n8 => Sys2Proof.Machine.execCp_n8 n8 s
  | .rst38 => Sys2Proof.Machine.execRst38 s
  | .rlc x => Sys2Proof.Machine.execRlc x s
  | .rrc x => Sys2Proof.Machine.execRrc x s
  | .rl x => Sys2Proof.Machine.execRl x s
  | .rr x => Sys2Proof.Machine.execRr x s
  | .sla x => Sys2Proof.Machine.execSla x s
  | .sra x => Sys2Proof.Machine.execSra x s
  | .swap x => Sys2Proof.Machine.execSwap x s
  | .srl x => Sys2Proof.Machine.execSrl x s
  | .bit b x => Sys2Proof.Machine.execBit b x s
  | .res b x => Sys2Proof.Machine.execRes b x s
  | .set b x => Sys2Proof.Machine.execSet b x s

end Sys2Proof.Machine
end

