-- ==== Sys2Proof/Machine/Loader.lean ====
section
/-! DEFINITION. Placing bytes where the machine fetches them, from outside the machine: the model's stand-in for the choice of
`BOOT_ROM` and `CART_IMAGE` or for code already copied to RAM (70_reset_and_hazards.md R353). No step does this. -/

namespace Sys2Proof.Machine

/-- A byte put at a place from outside: into the image where a ROM answers, else as a store does. -/
def State.loadPlace (s : State) (p : Place) (v : Byte) : State :=
  match p with
  | .boot n => { s with launch := { s.launch with bootRom := s.launch.bootRom.set n v } }
  | .rom n => { s with launch := { s.launch with cartRom := s.launch.cartRom.set n v } }
  | p => s.storePlace p v

/-- Bytes put at an address and the addresses behind it. -/
def State.loadBytes (s : State) (a : Word) : List Byte → State
  | [] => s
  | v :: rest => (s.loadPlace (s.place a) v).loadBytes (a + 1) rest

/-- Whether an address has a byte that can be placed. -/
def State.loadable (s : State) (a : Word) : Bool :=
  match s.place a with
  | .xram => false
  | .unused => false
  | _ => true

/-- Bytes placed at `PC`, with what a fetch of them needs: where one of the three bytes at `PC` has no store, `PC` moves to
0xC000; no fault is recorded, and no opcode is left out of `ADMITTED_OPCODES` (notes/assumptions/13.md). -/
def State.placeProgram (s : State) (bytes : List Byte) : State :=
  let pc := if s.loadable s.pc && s.loadable (s.pc + 1) && s.loadable (s.pc + 2) then s.pc else 0xC000
  let t := s.loadBytes pc bytes
  { t with pc := pc, fault := none, launch := { t.launch with excludedPrimary := [], excludedSecondary := [] } }

end Sys2Proof.Machine
end

