-- ==== Sys2Proof/Machine/Step.lean ====
section
/-! DEFINITION. One step (00_scope.md R16), and the placing of an instruction where the next step fetches it. -/

namespace Sys2Proof.Machine

/-- One step: a faulted machine has no further step (60_exceptions.md R324); otherwise the instruction at `PC` is executed whole,
or `UnimplementedOpcode` is raised where `ADMITTED_OPCODES` leaves its opcode out (R320). -/
def step (s : State) : Host.Outcome State Fault Refusal :=
  match s.fault with
  | some report => .fault (.stuck report)
  | none =>
    match s.fetch with
    | .ok i => exec i s
    | .error op => raise (.unimplementedOpcode op s.pc) s

/-- `s` with the instruction of a table word as the next one `step` runs: see `State.placeProgram`. -/
def State.withFetchWord (s : State) (nbits w : Nat) : State := s.placeProgram (tableBytes nbits w)

end Sys2Proof.Machine
end

