-- ==== Sys2Proof/Machine/Construct.lean ====
section
/-! DEFINITION. Construction of the machine by the host (70_reset_and_hazards.md R350): the launch parameters of 00_scope.md R7,
the cartridge (20_memory.md R71) and the load errors (60_exceptions.md R322, R323). -/

namespace Sys2Proof.Machine

/-- The cartridge a launch asks for (20_memory.md R71, R74, R75). -/
inductive Cartridge where
  /-- No cartridge: the spec gives such a machine no meaning (R75). -/
  | absent
  /-- The fixed-ROM variant, from an image (R71). -/
  | fixedRom (image : List Byte)
  /-- A bank-switched variant, by the capability it needs: declared and unimplemented (R74). -/
  | bankSwitched (capability : String)
deriving DecidableEq, Repr

/-- Why no machine is built. -/
inductive LoadError where
  /-- `E3` (60_exceptions.md R322): the image is longer than 65535 bytes. -/
  | invalidCartridge
  /-- A launch without a cartridge (20_memory.md R75): no machine; safe (notes/assumptions/15.md). -/
  | noCartridge
  /-- A bank-switched variant, naming the unimplemented capability (20_memory.md R74): no machine; safe (notes/assumptions/15.md). -/
  | unimplementedVariant (capability : String)
deriving DecidableEq, Repr

/-- `INIT_MEM` (00_scope.md R7): the bytes of each store from offset 0; bytes past a store's size are dropped and a short list is
continued with zeros (notes/assumptions/15.md). Offset 0x50 of `io` is 0 whatever stands here (10_state.md R41). -/
structure InitMem where
  vram : List Byte
  oam : List Byte
  wram : List Byte
  io : List Byte
  hram : List Byte
  ie : Byte
deriving DecidableEq, Repr

/-- The launch parameters of 00_scope.md R7, `ADMITTED_OPCODES` by the opcodes it leaves out. -/
structure LaunchParams where
  bootRom : Vector Byte 256
  cartridge : Cartridge
  wramSize : WramSize
  initMem : InitMem
  excludedPrimary : List Byte
  excludedSecondary : List Byte
deriving DecidableEq, Repr

/-- `try_from_bytes(image)` (20_memory.md R71): too long an image is rejected, any other is zero-padded. -/
def tryFromBytes (image : List Byte) : Except LoadError Memory :=
  if image.length > Config.cartSize then .error .invalidCartridge else .ok (Memory.ofBytes image)

/-- The store of `size` bytes that begins with the given ones. -/
def storeOf (size : Nat) (bytes : List Byte) : Memory := Memory.ofBytes (bytes.take size)

/-- The machine built around an accepted cartridge ROM: `State.reset` with the parameters in place (R350, 10_state.md R40, R41). -/
def LaunchParams.machine (p : LaunchParams) (cartRom : Memory) : State :=
  { State.reset with
    vram := storeOf Config.vramSize p.initMem.vram
    oam := storeOf Config.oamSize p.initMem.oam
    wram := storeOf p.wramSize.bytes p.initMem.wram
    io := (storeOf Config.ioSize p.initMem.io).set Config.overlayOffset 0
    hram := storeOf Config.hramSize p.initMem.hram
    ie := p.initMem.ie
    launch :=
      { bootRom := Memory.ofBytes p.bootRom.toList, cartRom := cartRom, wramSize := p.wramSize
        excludedPrimary := p.excludedPrimary, excludedSecondary := p.excludedSecondary } }

/-- Construction: the machine in its reset state, or no machine (R350). -/
def construct (p : LaunchParams) : Except LoadError State :=
  match p.cartridge with
  | .absent => .error .noCartridge
  | .bankSwitched capability => .error (.unimplementedVariant capability)
  | .fixedRom image =>
    match tryFromBytes image with
    | .error e => .error e
    | .ok rom => .ok (p.machine rom)

/-- The parameters of the machine that `State.reset` is (notes/assumptions/1.md to 4.md). -/
def LaunchParams.default : LaunchParams :=
  { bootRom := Vector.replicate 256 0, cartridge := .fixedRom [], wramSize := .full
    initMem := { vram := [], oam := [], wram := [], io := [], hram := [], ie := 0 }
    excludedPrimary := [], excludedSecondary := [] }

end Sys2Proof.Machine
end

