-- ==== Sys2Proof/Machine/Observe.lean ====
section
/-! DEFINITION. What the host may observe between steps (70_reset_and_hazards.md R362, R363; 60_exceptions.md R344). None of
these changes a state. -/

namespace Sys2Proof.Machine

/-- `read(address)`: a single-byte peek through the full MMU decode (R362 b). -/
def State.peek (s : State) (a : Word) : Byte := s.read a

/-- `video_memory()`: `vram[0]` to `vram[8191]` in order (R363). -/
def State.videoMemory (s : State) : List Byte := (List.range Config.vramSize).map s.vram.get

/-- The register and flag snapshot (R362 d): `ime`, the latch and the fault record are not part of it. -/
structure Snapshot where
  af : Word
  bc : Word
  de : Word
  hl : Word
  sp : Word
  pc : Word
  z : Bool
  n : Bool
  h : Bool
  c : Bool
deriving DecidableEq, Repr

/-- The snapshot of a state (R362 d). -/
def State.snapshot (s : State) : Snapshot :=
  { af := s.af, bc := s.bc, de := s.de, hl := s.hl, sp := s.sp, pc := s.pc
    z := s.flagZ, n := s.flagN, h := s.flagH, c := s.flagC }

end Sys2Proof.Machine
end

