-- ==== Sys2Proof/Safety.lean ====
section
/-! DEFINITION. What a safe run is, the invariant of the machine, when a program is finished (70_reset_and_hazards.md R364),
and the addresses each instruction stores to. -/

namespace Sys2Proof.Machine

/-- A run of `n` steps from `s` completes: no step of it faults. -/
def SafeFor (n : Nat) (s : State) : Prop := ∃ t, Sys2Proof.core.run n s = .next t

/-- `PC` holds the address of `JR -2`, bytes `18 FE` (R364): the spec's end of a program. A faulted machine is no end state.
DESIGN CHOICE (notes/assumptions/16.md): the bytes alone decide, also where `ADMITTED_OPCODES` leaves 0x18 out. -/
def State.finished (s : State) : Bool := s.fault.isNone && s.read s.pc == 0x18 && s.read (s.pc + 1) == 0xFE

/-- A run from `s` ends in `t` (R364): `n` steps lead there and it is the first moment the program is finished. A later state of the
loop differs in the count returned and is not the end state. -/
def EndsIn (s t : State) : Prop :=
  ∃ n, Sys2Proof.core.run n s = .next t ∧ t.finished = true ∧
    ∀ k u, k < n → Sys2Proof.core.run k s = .next u → u.finished = false

/-- Every store is in its canonical form and no larger than the spec makes it (00_scope.md R6, R7). -/
def State.storesWf (s : State) : Bool :=
  s.vram.wf && s.vram.below Config.vramSize && s.oam.wf && s.oam.below Config.oamSize
    && s.wram.wf && s.wram.below s.launch.wramSize.bytes && s.io.wf && s.io.below Config.ioSize
    && s.hram.wf && s.hram.below Config.hramSize
    && s.launch.bootRom.wf && s.launch.bootRom.below Config.bootSize
    && s.launch.cartRom.wf && s.launch.cartRom.below Config.cartSize

/-- The overlay disable register reads nonzero only where the latch is set (10_state.md R31). -/
def State.overlayConsistent (s : State) : Bool := s.io.get Config.overlayOffset == 0 || s.bootDisabled

/-- The invariant of the machine. -/
def State.Inv (s : State) : Prop := s.storesWf = true ∧ s.overlayConsistent = true

/-- The addresses an instruction other than the bare prefix stores to, by the address expression of its rule. -/
def storesTo (i : Instr) (s : State) : List Word :=
  match i with
  | .ldAtHL_B | .ldAtHL_C | .ldAtHL_D | .ldAtHL_E | .ldAtHL_H | .ldAtHL_L | .ldAtHL_A | .ldAtHL_n8 _ => [s.hl]
  | .ldAtHLInc_A | .ldAtHLDec_A | .incAtHL | .decAtHL => [s.hl]
  | .ldAtBC_A => [s.bc]
  | .ldAtDE_A => [s.de]
  | .ldA16_A a16 => [a16]
  | .ldhA8_A a8 => [highPage a8]
  | .ldAtC_A => [highPage s.c]
  | .ldA16_SP a16 => [a16 + 1, a16]
  | .pushBC | .pushDE | .pushHL | .pushAF => [s.sp - 1, s.sp - 2]
  | .call _ => [s.sp - 1, s.sp - 2]
  | .callNZ _ => if s.cond .nz then [s.sp - 1, s.sp - 2] else []
  | .callZ _ => if s.cond .z then [s.sp - 1, s.sp - 2] else []
  | .callNC _ => if s.cond .nc then [s.sp - 1, s.sp - 2] else []
  | .callC _ => if s.cond .c then [s.sp - 1, s.sp - 2] else []
  | .rst00 | .rst08 | .rst10 | .rst18 | .rst20 | .rst28 | .rst30 | .rst38 => [s.sp - 1, s.sp - 2]
  | .rlc .atHL | .rrc .atHL | .rl .atHL | .rr .atHL | .sla .atHL | .sra .atHL | .swap .atHL | .srl .atHL => [s.hl]
  | .res _ .atHL | .set _ .atHL => [s.hl]
  | _ => []

/-- The addresses an instruction stores to; the prefix byte stores where the instruction it selects does (46_system.md R305). -/
def storedAt (i : Instr) (s : State) : List Word :=
  storesTo (if i = .prefixCB then decodeSecondary (s.read (s.pc + 1)) else i) s

end Sys2Proof.Machine
end

