-- ==== Sys2Proof/Certificates/Slice0/Obligations.lean ====
section
/-! DEFINITION. The statements for the provers. Each names the rules of spec/ it formalises. A statement about an instruction
gives its encoding, the state it leaves whole (so every field not named is unchanged: its frame), the flags by the spec's
expressions, the cycle count it returns, and where it raises. -/

open Sys2Proof Sys2Proof.Machine

namespace Sys2Proof.Stated

/-! ### The spec's tables and expressions, written out again for the statements -/

/-- Operand codes of `r8[i]` (30_encoding.md R104). -/
def code8 : R8 → BitVec 3
  | .reg .b => 0b000
  | .reg .c => 0b001
  | .reg .d => 0b010
  | .reg .e => 0b011
  | .reg .h => 0b100
  | .reg .l => 0b101
  | .atHL => 0b110
  | .reg .a => 0b111

/-- Pair codes `rp` (30_encoding.md R105). -/
def codePair : Pair → BitVec 2
  | .bc => 0b00
  | .de => 0b01
  | .hl => 0b10
  | .sp => 0b11

/-- Pair codes `rp2` (30_encoding.md R105). -/
def codeStackPair : StackPair → BitVec 2
  | .bc => 0b00
  | .de => 0b01
  | .hl => 0b10
  | .af => 0b11

/-- Condition codes (30_encoding.md R106). -/
def codeCond : Cond → BitVec 2
  | .nz => 0b00
  | .z => 0b01
  | .nc => 0b10
  | .c => 0b11

/-- ALU selectors (30_encoding.md R107). -/
def codeAlu : AluOp → BitVec 3
  | .add => 0b000
  | .adc => 0b001
  | .sub => 0b010
  | .sbc => 0b011
  | .and => 0b100
  | .xor => 0b101
  | .or => 0b110
  | .cp => 0b111

/-- `cond(cc)` on the flag byte (00_scope.md R15). -/
def holds (f : Byte) : Cond → Bool
  | .nz => !f.getLsbD 7
  | .z => f.getLsbD 7
  | .nc => !f.getLsbD 4
  | .c => f.getLsbD 4

/-- The flag byte with `Z N H C` in bits 7, 6, 5, 4 and the low four bits of `f` (00_scope.md R11, 10_state.md R26). -/
def flagByte (f : Byte) (z n h c : Bool) : Byte :=
  (if z then 0x80 else 0) ||| (if n then 0x40 else 0) ||| (if h then 0x20 else 0) ||| (if c then 0x10 else 0)
    ||| (f &&& 0x0F)

/-- 0xA000-0xBFFF, the window in which a write raises (20_memory.md R62). -/
abbrev absent (a : Word) : Prop := 0xA000 ≤ a.toNat ∧ a.toNat ≤ 0xBFFF

/-- An address that decodes to a writable store (20_memory.md R56). -/
abbrev writable (a : Word) : Prop :=
  0x8000 ≤ a.toNat ∧ ¬ absent a ∧ ¬ (0xFEA0 ≤ a.toNat ∧ a.toNat ≤ 0xFEFF)

/-- Two addresses that select one byte: the same address, or two work-RAM addresses, echo included, with one index
(20_memory.md R63, R64, 70_reset_and_hazards.md R360). -/
abbrev aliases (wramSize : WramSize) (a b : Word) : Prop :=
  a = b ∨ (0xC000 ≤ a.toNat ∧ a.toNat ≤ 0xFDFF ∧ 0xC000 ≤ b.toNat ∧ b.toNat ≤ 0xFDFF ∧
    (a.toNat - 0xC000) % wramSize.bytes = (b.toNat - 0xC000) % wramSize.bytes)

/-- `UnimplementedOpcode(op, pc)` raised in `s` (60_exceptions.md R320, R325). -/
def opcodeFault (op : Byte) (s : State) : Res :=
  .fault (.unimplementedOpcode op s.pc { s with fault := some (.unimplementedOpcode op s.pc), cycles := none })

/-- `UnimplementedMemoryCapability(a, v)` raised in `s` (60_exceptions.md R321, R325). -/
def memoryFault (a : Word) (v : Byte) (s : State) : Res :=
  .fault (.unimplementedMemoryCapability a v
    { s with fault := some (.unimplementedMemoryCapability a v), cycles := none })

/-- The step is not turned away by the fault record or by `ADMITTED_OPCODES` (60_exceptions.md R324, 46_system.md R307). -/
abbrev mayRun (s : State) : Prop :=
  s.fault = none ∧ s.launch.admitsPrimary (s.read s.pc) = true ∧
    (s.read s.pc = 0xCB → s.launch.admitsSecondary (s.read (s.pc + 1)) = true)

/-- An instruction that performs `Push16(v)` and then sets `PC` to `target` at a cost of `n` (41_load16_stack.md R173): it
completes where neither stack byte lies in the window without a store, and raises at the first that does, the high byte first. -/
def Pushes (i : Instr) (s : State) (v target : Word) (n : Byte) : Prop :=
  (¬ absent (s.sp - 1) → ¬ absent (s.sp - 2) →
    exec i s = .next { (s.store (s.sp - 1) (hi v)).store (s.sp - 2) (lo v) with
      sp := s.sp - 2, pc := target, cycles := some n }) ∧
  (absent (s.sp - 1) → exec i s = memoryFault (s.sp - 1) (hi v) s) ∧
  (¬ absent (s.sp - 1) → absent (s.sp - 2) →
    exec i s = memoryFault (s.sp - 2) (lo v) (s.store (s.sp - 1) (hi v)))

/-- An instruction of `len` bytes that writes the byte `v` to `a` after leaving `before`, and costs `n`: it completes outside the
window without a store and raises inside it (20_memory.md R53, R62). -/
def Writes (i : Instr) (s before : State) (a : Word) (v : Byte) (len : Word) (n : Byte) (after : State → State) : Prop :=
  (¬ absent a → exec i s = .next { after (before.store a v) with pc := s.pc + len, cycles := some n }) ∧
  (absent a → exec i s = memoryFault a v before)

/-- What a two-operand accumulator operation leaves in `A`, then `Z N H C`, from the operands and the carry before it
(42_alu8.md R190 to R197). -/
def alu (op : AluOp) (a v : Byte) (carry : Bool) : Byte × Bool × Bool × Bool × Bool :=
  let k := carry.toNat
  match op with
  | .add => (a + v, a + v == 0, false, 0x0F < a.toNat % 16 + v.toNat % 16, 0xFF < a.toNat + v.toNat)
  | .adc =>
    let r := a + v + BitVec.ofNat 8 k
    (r, r == 0, false, 0x0F < a.toNat % 16 + v.toNat % 16 + k, 0xFF < a.toNat + v.toNat + k)
  | .sub => (a - v, a == v, true, a.toNat % 16 < v.toNat % 16, a.toNat < v.toNat)
  | .sbc =>
    let r := a - v - BitVec.ofNat 8 k
    (r, r == 0, true, a.toNat % 16 < v.toNat % 16 + k, a.toNat < v.toNat + k)
  | .and => (a &&& v, a &&& v == 0, false, true, false)
  | .xor => (a ^^^ v, a ^^^ v == 0, false, false, false)
  | .or => (a ||| v, a ||| v == 0, false, false, false)
  | .cp => (a, a == v, true, a.toNat % 16 < v.toNat % 16, a.toNat < v.toNat)

/-- The state a two-operand accumulator operation with operand `v` leaves, but for `PC` and the count. -/
def afterAlu (op : AluOp) (v : Byte) (s : State) : State :=
  let x := alu op s.a v (s.f.getLsbD 4)
  { s with a := x.1, f := flagByte s.f x.2.1 x.2.2.1 x.2.2.2.1 x.2.2.2.2 }

/-- A rotate or shift, by its selector (30_encoding.md R108): the result and the bit that goes to `C`
(44_rotate_bit.md R244 to R251). -/
def rot (k : Fin 8) (v : Byte) (carry : Bool) : Byte × Bool :=
  match k with
  | 0 => ((v <<< 1) ||| (v >>> 7), decide (0x80 ≤ v.toNat))
  | 1 => ((v >>> 1) ||| (v <<< 7), decide (v.toNat % 2 = 1))
  | 2 => ((v <<< 1) ||| (if carry then 0x01 else 0), decide (0x80 ≤ v.toNat))
  | 3 => ((v >>> 1) ||| (if carry then 0x80 else 0), decide (v.toNat % 2 = 1))
  | 4 => (v <<< 1, decide (0x80 ≤ v.toNat))
  | 5 => ((v >>> 1) ||| (v &&& 0x80), decide (v.toNat % 2 = 1))
  | 6 => ((v <<< 4) ||| (v >>> 4), false)
  | 7 => (v >>> 1, decide (v.toNat % 2 = 1))

/-- The decimal digits of a number below 100 as two BCD nibbles. -/
def bcd (n : Nat) : Byte := BitVec.ofNat 8 (n / 10 * 16 + n % 10)

end Sys2Proof.Stated

open Sys2Proof.Stated

/-! ### Encoding -/

/-- Words written out bit by bit from the spec's encodings (30_encoding.md R101, R110, R111) decode to the instructions they
stand for, at least one of every family. -/
def Obligations.SampleWordsDecode : Prop :=
  decode [0b00000000] = .ok (.nop, []) ∧
  decode [0b01000001] = .ok (.ldB_C, []) ∧
  decode [0b01110000] = .ok (.ldAtHL_B, []) ∧
  decode [0b00111110, 0x80] = .ok (.ldA_n8 0x80, []) ∧
  decode [0b00110001, 0xFE, 0xFF] = .ok (.ldSP_n16 0xFFFE, []) ∧
  decode [0b11110101] = .ok (.pushAF, []) ∧
  decode [0b10101111] = .ok (.xorA, []) ∧
  decode [0b11001110, 0x3B] = .ok (.adcA_n8 0x3B, []) ∧
  decode [0b00100111] = .ok (.daa, []) ∧
  decode [0b00101001] = .ok (.addHL_HL, []) ∧
  decode [0b11101000, 0xFE] = .ok (.addSP_e8 0xFE, []) ∧
  decode [0b11001011, 0b00110111] = .ok (.swap (.reg .a), []) ∧
  decode [0b11001011, 0b01111110] = .ok (.bit 7 .atHL, []) ∧
  decode [0b11000011, 0x50, 0x01] = .ok (.jp 0x0150, []) ∧
  decode [0b00100000, 0xFB] = .ok (.jrNZ 0xFB, []) ∧
  decode [0b11101111] = .ok (.rst28, []) ∧
  decode [0b01110110] = .ok (.halt, []) ∧
  decode [0b11011101] = .ok (.undefinedDD, [])

/-- Decoding the bytes of a well-formed instruction gives it back, whatever bytes follow: no bit of an encoding is dropped. -/
def Obligations.DecodeOfEncodeIsIdentity : Prop :=
  ∀ (i : Instr) (rest : List Byte), i.wellFormed = true → decode (encode i ++ rest) = .ok (i, rest)

/-- Bytes that decode are the bytes of the instruction they decode to: each word has one meaning, and what is decoded is
well-formed. -/
def Obligations.EncodeOfDecodeIsIdentity : Prop :=
  ∀ (bytes rest : List Byte) (i : Instr),
    decode bytes = .ok (i, rest) → i.wellFormed = true ∧ encode i ++ rest = bytes

/-! ### The step -/

/-- A step runs the instruction the bytes at `PC` decode to (00_scope.md R16, 30_encoding.md R103): where the fault record is
clear and the opcode is admitted, `step` is `exec` of it on the state as it stands; `PC` is moved by the instruction itself. -/
def Obligations.StepRunsDecodedInstruction : Prop :=
  ∀ (s : State) (i : Instr) (rest : List Byte), mayRun s →
    decode [s.read s.pc, s.read (s.pc + 1), s.read (s.pc + 2)] = .ok (i, rest) → step s = exec i s

/-- An opcode left out of `ADMITTED_OPCODES` raises `UnimplementedOpcode` with `PC` at the instruction's first byte, a secondary one
under its own value; 0x00, 0xAF, 0xC3 and 0xCB cannot be left out (46_system.md R307).
What may be left out is the spec's own decision (92_eei_decisions.md D2). -/
def Obligations.ExcludedOpcodesRaise : Prop :=
  ∀ s : State, s.fault = none →
    (s.read s.pc ∈ s.launch.excludedPrimary → s.read s.pc ∉ [(0x00 : Byte), 0xAF, 0xC3, 0xCB] →
      step s = opcodeFault (s.read s.pc) s) ∧
    (s.read s.pc = 0xCB → s.read (s.pc + 1) ∈ s.launch.excludedSecondary →
      step s = opcodeFault (s.read (s.pc + 1)) s) ∧
    (s.read s.pc = 0x00 → step s = exec .nop s) ∧
    (s.read s.pc = 0xAF → step s = exec .xorA s) ∧
    (s.read s.pc = 0xC3 → step s = exec (.jp (s.readWord (s.pc + 1))) s) ∧
    (s.read s.pc = 0xCB → s.read (s.pc + 1) ∉ s.launch.excludedSecondary →
      step s = exec (decodeSecondary (s.read (s.pc + 1))) s)

/-- A faulted machine has no further step, no step begins from one, and a completed step records no fault (60_exceptions.md
R324).
That the missing step shows as a fault named `stuck` is the model's choice (notes/assumptions/7.md). -/
def Obligations.FaultedMachineNeverSteps : Prop :=
  (∀ (s : State) (r : FaultReport), s.fault = some r → step s = .fault (.stuck r)) ∧
  (∀ s t : State, step s = .next t → s.fault = none ∧ t.fault = none)

/-- `PREFIX CB` (46_system.md R305): a step that finds 0xCB at `PC` is the prefix's own meaning, one step for the pair; it
executes the instruction the secondary table assigns to `op2`. It completes, `PC` two
further and the pair's count returned, for a register operand, for `BIT`, and for `(HL)` outside the window without a store; an
`op2` left out of `ADMITTED_OPCODES` raises. -/
def Obligations.PrefixRunsSecondaryTable : Prop :=
  encode .prefixCB = [0xCB] ∧
  ∀ s : State,
    (s.fault = none → s.read s.pc = 0xCB → step s = exec .prefixCB s) ∧
    (s.read (s.pc + 1) ∈ s.launch.excludedSecondary → exec .prefixCB s = opcodeFault (s.read (s.pc + 1)) s) ∧
    (s.read (s.pc + 1) ∉ s.launch.excludedSecondary →
      exec .prefixCB s = exec (decodeSecondary (s.read (s.pc + 1))) s) ∧
    (s.read (s.pc + 1) ∉ s.launch.excludedSecondary →
      (s.read (s.pc + 1)).extractLsb' 0 3 ≠ 0b110 ∨ (s.read (s.pc + 1)).extractLsb' 6 2 = 0b01 ∨ ¬ absent s.hl →
      ∃ t, exec .prefixCB s = .next t ∧ t.pc = s.pc + 2 ∧
        t.cycles = some (if (s.read (s.pc + 1)).extractLsb' 0 3 ≠ 0b110 then 8
          else if (s.read (s.pc + 1)).extractLsb' 6 2 = 0b01 then 12 else 16))

/-! ### Registers -/

/-- A pair and its halves are one storage (10_state.md R21): writing a half changes the pair by `with_hi` or `with_lo` and leaves
the other half, and writing a pair changes both halves. -/
def Obligations.PairsAndHalvesAreOneStorage : Prop :=
  ∀ (s : State) (v : Byte) (w : Word),
    ((s.setReg .b v).bc = withHi s.bc v ∧ (s.setReg .c v).bc = withLo s.bc v) ∧
    ((s.setReg .d v).de = withHi s.de v ∧ (s.setReg .e v).de = withLo s.de v) ∧
    ((s.setReg .h v).hl = withHi s.hl v ∧ (s.setReg .l v).hl = withLo s.hl v) ∧
    ((s.setReg .a v).af = withHi s.af v ∧ ({ s with f := v } : State).af = withLo s.af v) ∧
    (∀ r q : Reg8, (s.setReg r v).reg q = if q = r then v else s.reg q) ∧
    (∀ p q : Pair, (s.setPair p w).pair q = if q = p then w else s.pair q) ∧
    (∀ p q : StackPair, (s.setStackPair p w).stackPair q = if q = p then w else s.stackPair q) ∧
    ((s.setPair .bc w).b = hi w ∧ (s.setPair .bc w).c = lo w) ∧
    ((s.setPair .de w).d = hi w ∧ (s.setPair .de w).e = lo w) ∧
    ((s.setPair .hl w).h = hi w ∧ (s.setPair .hl w).l = lo w) ∧
    ((s.setStackPair .af w).a = hi w ∧ (s.setStackPair .af w).f = lo w)

/-! ### 8-bit loads and stores -/

/-- `LD r,r'` (40_load8.md R130), all 49 forms. -/
def Obligations.LoadRegisterFromRegister : Prop :=
  ∀ dst r : Reg8,
    encode (ldInstr (.reg dst) (.reg r)) = [0b01#2 ++ code8 (.reg dst) ++ code8 (.reg r)] ∧
    ∀ s : State, exec (ldInstr (.reg dst) (.reg r)) s =
      .next { s.setReg dst (s.reg r) with pc := s.pc + 1, cycles := some 4 }

/-- `LD r,(HL)` (40_load8.md R131) and `LD r,n8` (R133), for the seven registers. -/
def Obligations.LoadRegisterFromMemoryOrImmediate : Prop :=
  ∀ dst : Reg8,
    encode (ldInstr (.reg dst) .atHL) = [0b01#2 ++ code8 (.reg dst) ++ 0b110#3] ∧
    (∀ s : State, exec (ldInstr (.reg dst) .atHL) s =
      .next { s.setReg dst (s.read s.hl) with pc := s.pc + 1, cycles := some 8 }) ∧
    ∀ n8 : Byte,
      encode (ldImmInstr (.reg dst) n8) = [0b00#2 ++ code8 (.reg dst) ++ 0b110#3, n8] ∧
      ∀ s : State, exec (ldImmInstr (.reg dst) n8) s =
        .next { s.setReg dst n8 with pc := s.pc + 2, cycles := some 8 }

/-- `LD (HL),r` (40_load8.md R132) and `LD (HL),n8` (R134), with the fault in 0xA000-0xBFFF. -/
def Obligations.StoreAtHL : Prop :=
  (∀ r : Reg8, encode (ldInstr .atHL (.reg r)) = [0b01110#5 ++ code8 (.reg r)] ∧
    ∀ s : State, Writes (ldInstr .atHL (.reg r)) s s s.hl (s.reg r) 1 8 id) ∧
  ∀ n8 : Byte, encode (ldImmInstr .atHL n8) = [0x36, n8] ∧
    ∀ s : State, Writes (ldImmInstr .atHL n8) s s s.hl n8 2 12 id

/-- The accumulator loads: `LD A,(BC)` (40_load8.md R135), `LD A,(DE)` (R136), `LD A,(HL+)` (R141), `LD A,(HL-)` (R142),
`LD A,(a16)` (R144), `LDH A,(a8)` (R151), `LD A,(C)` (R153). -/
def Obligations.LoadAccumulator : Prop :=
  (encode .ldA_AtBC = [0x0A] ∧ encode .ldA_AtDE = [0x1A] ∧ encode .ldA_AtHLInc = [0x2A] ∧ encode .ldA_AtHLDec = [0x3A] ∧
    encode .ldA_AtC = [0xF2] ∧ (∀ a8, encode (.ldhA_A8 a8) = [0xF0, a8]) ∧
    ∀ a16, encode (.ldA_A16 a16) = [0xFA, lo a16, hi a16]) ∧
  ∀ s : State,
    exec .ldA_AtBC s = .next { s with a := s.read s.bc, pc := s.pc + 1, cycles := some 8 } ∧
    exec .ldA_AtDE s = .next { s with a := s.read s.de, pc := s.pc + 1, cycles := some 8 } ∧
    exec .ldA_AtHLInc s =
      .next { s with a := s.read s.hl, h := hi (s.hl + 1), l := lo (s.hl + 1), pc := s.pc + 1, cycles := some 8 } ∧
    exec .ldA_AtHLDec s =
      .next { s with a := s.read s.hl, h := hi (s.hl - 1), l := lo (s.hl - 1), pc := s.pc + 1, cycles := some 8 } ∧
    (∀ a16, exec (.ldA_A16 a16) s = .next { s with a := s.read a16, pc := s.pc + 3, cycles := some 16 }) ∧
    (∀ a8, exec (.ldhA_A8 a8) s =
      .next { s with a := s.read (0xFF00 + zext16 a8), pc := s.pc + 2, cycles := some 12 }) ∧
    exec .ldA_AtC s = .next { s with a := s.read (0xFF00 + zext16 s.c), pc := s.pc + 1, cycles := some 8 }

/-- The accumulator stores: `LD (BC),A` (40_load8.md R137), `LD (DE),A` (R138), `LD (HL+),A` (R139), `LD (HL-),A` (R140),
`LD (a16),A` (R143); the write precedes the change of `HL` and is made at the old `HL`. The high-page stores `LDH (a8),A` (R150)
and `LD (C),A` (R152) complete in every state. -/
def Obligations.StoreAccumulator : Prop :=
  (encode .ldAtBC_A = [0x02] ∧ encode .ldAtDE_A = [0x12] ∧ encode .ldAtHLInc_A = [0x22] ∧ encode .ldAtHLDec_A = [0x32] ∧
    encode .ldAtC_A = [0xE2] ∧ (∀ a8, encode (.ldhA8_A a8) = [0xE0, a8]) ∧
    ∀ a16, encode (.ldA16_A a16) = [0xEA, lo a16, hi a16]) ∧
  ∀ s : State,
    Writes .ldAtBC_A s s s.bc s.a 1 8 id ∧
    Writes .ldAtDE_A s s s.de s.a 1 8 id ∧
    Writes .ldAtHLInc_A s s s.hl s.a 1 8 (fun t => { t with h := hi (s.hl + 1), l := lo (s.hl + 1) }) ∧
    Writes .ldAtHLDec_A s s s.hl s.a 1 8 (fun t => { t with h := hi (s.hl - 1), l := lo (s.hl - 1) }) ∧
    (∀ a16, Writes (.ldA16_A a16) s s a16 s.a 3 16 id) ∧
    (∀ a8, exec (.ldhA8_A a8) s =
      .next { s.store (0xFF00 + zext16 a8) s.a with pc := s.pc + 2, cycles := some 12 }) ∧
    exec .ldAtC_A s = .next { s.store (0xFF00 + zext16 s.c) s.a with pc := s.pc + 1, cycles := some 8 }

/-! ### 16-bit loads and the stack -/

/-- `LD rp,n16` (41_load16_stack.md R170) and `LD SP,HL` (R172). -/
def Obligations.LoadPairs : Prop :=
  (∀ (p : Pair) (n16 : Word),
    encode (ldPairInstr p n16) = [0b00#2 ++ codePair p ++ 0b0001#4, lo n16, hi n16] ∧
    ∀ s : State, exec (ldPairInstr p n16) s = .next { s.setPair p n16 with pc := s.pc + 3, cycles := some 12 }) ∧
  encode .ldSP_HL = [0xF9] ∧
  ∀ s : State, exec .ldSP_HL s = .next { s with sp := s.hl, pc := s.pc + 1, cycles := some 8 }

/-- `LD (a16),SP` (41_load16_stack.md R171): the high byte is written to `a16 + 1` first, then the low byte to `a16`; the fault
names the first of the two that lies in 0xA000-0xBFFF, and a high byte already written stays written. -/
def Obligations.StoreStackPointer : Prop :=
  ∀ a16 : Word, encode (.ldA16_SP a16) = [0x08, lo a16, hi a16] ∧
    ∀ s : State,
      (¬ absent (a16 + 1) → ¬ absent a16 →
        exec (.ldA16_SP a16) s =
          .next { (s.store (a16 + 1) (hi s.sp)).store a16 (lo s.sp) with pc := s.pc + 3, cycles := some 20 }) ∧
      (absent (a16 + 1) → exec (.ldA16_SP a16) s = memoryFault (a16 + 1) (hi s.sp) s) ∧
      (¬ absent (a16 + 1) → absent a16 →
        exec (.ldA16_SP a16) s = memoryFault a16 (lo s.sp) (s.store (a16 + 1) (hi s.sp)))

/-- `ADD SP,e8` (43_alu16.md R233) and `LD HL,SP+e8` (41_load16_stack.md R175): the 16-bit sum with the sign-extended
displacement, and the flags `0 0 h c` from bits 3 and 7 of the low byte of `SP` and the raw byte.
The flags are the spec's own decision (92_eei_decisions.md D7). -/
def Obligations.StackPointerPlusDisplacement : Prop :=
  ∀ e8 : Byte, encode (.addSP_e8 e8) = [0xE8, e8] ∧ encode (.ldHL_SPe8 e8) = [0xF8, e8] ∧
    ∀ s : State,
      let r := s.sp + e8.signExtend 16
      let f := flagByte s.f false false (decide (0x0F < s.sp.toNat % 16 + e8.toNat % 16))
        (decide (0xFF < s.sp.toNat % 256 + e8.toNat))
      exec (.addSP_e8 e8) s = .next { s with sp := r, f := f, pc := s.pc + 2, cycles := some 16 } ∧
      exec (.ldHL_SPe8 e8) s = .next { s with h := hi r, l := lo r, f := f, pc := s.pc + 2, cycles := some 12 }

/-- `PUSH rp2` (41_load16_stack.md R178) with `Push16` (R173). -/
def Obligations.PushPair : Prop :=
  ∀ p : StackPair, encode (pushInstr p) = [0b11#2 ++ codeStackPair p ++ 0b0101#4] ∧
    ∀ s : State, Pushes (pushInstr p) s (s.stackPair p) (s.pc + 1) 16

/-- `POP rp2` (41_load16_stack.md R179) with `Pop16` (R174): high byte from `SP + 1`, low byte from `SP`; `POP AF` replaces all
eight bits of `F`.
That `POP AF` loads bits 3 to 0 is the spec's own decision (92_eei_decisions.md D6). -/
def Obligations.PopPair : Prop :=
  ∀ p : StackPair, encode (popInstr p) = [0b11#2 ++ codeStackPair p ++ 0b0001#4] ∧
    ∀ s : State, exec (popInstr p) s =
      .next { s.setStackPair p (word (s.read (s.sp + 1)) (s.read s.sp)) with
        sp := s.sp + 2, pc := s.pc + 1, cycles := some 12 }

/-- A push followed by a pop returns the value and restores `SP`, wherever both stack bytes are writable (41_load16_stack.md
R176).
The side conditions are the spec's own derivation. -/
def Obligations.PushThenPopReturnsValue : Prop :=
  ∀ (s : State) (p q : StackPair), s.Inv → writable (s.sp - 1) → writable (s.sp - 2) →
    ∃ t u, exec (pushInstr p) s = .next t ∧ exec (popInstr q) t = .next u ∧
      u.stackPair q = s.stackPair p ∧ u.sp = s.sp

/-! ### 8-bit arithmetic and logic -/

/-- The eight accumulator operations with a register or `(HL)` (42_alu8.md R190 to R197): 64 forms. -/
def Obligations.AccumulatorOperations : Prop :=
  ∀ op : AluOp,
    (∀ r : Reg8, encode (aluInstr op (.reg r)) = [0b10#2 ++ codeAlu op ++ code8 (.reg r)] ∧
      ∀ s : State, exec (aluInstr op (.reg r)) s =
        .next { afterAlu op (s.reg r) s with pc := s.pc + 1, cycles := some 4 }) ∧
    encode (aluInstr op .atHL) = [0b10#2 ++ codeAlu op ++ 0b110#3] ∧
    ∀ s : State, exec (aluInstr op .atHL) s =
      .next { afterAlu op (s.read s.hl) s with pc := s.pc + 1, cycles := some 8 }

/-- The eight accumulator operations with an immediate (42_alu8.md R198 to R205). -/
def Obligations.AccumulatorImmediateOperations : Prop :=
  ∀ (op : AluOp) (n8 : Byte), encode (aluImmInstr op n8) = [0b11#2 ++ codeAlu op ++ 0b110#3, n8] ∧
    ∀ s : State, exec (aluImmInstr op n8) s =
      .next { afterAlu op n8 s with pc := s.pc + 2, cycles := some 8 }

/-- `INC r8` (42_alu8.md R206) and `DEC r8` (R208) on a register: flags `* 0 * -` and `* 1 * -`. -/
def Obligations.IncrementDecrementRegister : Prop :=
  ∀ r : Reg8,
    encode (incInstr (.reg r)) = [0b00#2 ++ code8 (.reg r) ++ 0b100#3] ∧
    encode (decInstr (.reg r)) = [0b00#2 ++ code8 (.reg r) ++ 0b101#3] ∧
    ∀ s : State,
      exec (incInstr (.reg r)) s =
        .next { s.setReg r (s.reg r + 1) with
          f := flagByte s.f (s.reg r == 0xFF) false (decide ((s.reg r).toNat % 16 = 0xF)) (s.f.getLsbD 4)
          pc := s.pc + 1, cycles := some 4 } ∧
      exec (decInstr (.reg r)) s =
        .next { s.setReg r (s.reg r - 1) with
          f := flagByte s.f (s.reg r == 0x01) true (decide ((s.reg r).toNat % 16 = 0x0)) (s.f.getLsbD 4)
          pc := s.pc + 1, cycles := some 4 }

/-- `INC (HL)` (42_alu8.md R207) and `DEC (HL)` (R209): the flags are written before the memory byte, so a fault leaves them
written; the value a fault reports is 0x00, or 0xFE, since the window reads 0xFF. -/
def Obligations.IncrementDecrementMemory : Prop :=
  encode .incAtHL = [0x34] ∧ encode .decAtHL = [0x35] ∧
  ∀ s : State,
    let v := s.read s.hl
    let up := { s with f := flagByte s.f (v == 0xFF) false (decide (v.toNat % 16 = 0xF)) (s.f.getLsbD 4) }
    let down := { s with f := flagByte s.f (v == 0x01) true (decide (v.toNat % 16 = 0x0)) (s.f.getLsbD 4) }
    Writes .incAtHL s up s.hl (v + 1) 1 12 id ∧ Writes .decAtHL s down s.hl (v - 1) 1 12 id ∧
    (absent s.hl → exec .incAtHL s = memoryFault s.hl 0x00 up ∧ exec .decAtHL s = memoryFault s.hl 0xFE down)

/-- `DAA` (42_alu8.md R210): the adjustment tests the value of `A` before any adjustment; flags `* - 0 *`. -/
def Obligations.DecimalAdjust : Prop :=
  encode .daa = [0x27] ∧
  ∀ s : State,
    let n := s.f.getLsbD 6
    let h := s.f.getLsbD 5
    let c := s.f.getLsbD 4
    let low : Nat := if h ∨ (¬ n ∧ s.a.toNat % 16 > 9) then 0x06 else 0
    let high : Nat := if c ∨ (¬ n ∧ s.a.toNat > 0x99) then 0x60 else 0
    let r : Byte := if n then s.a - BitVec.ofNat 8 (low + high) else s.a + BitVec.ofNat 8 (low + high)
    exec .daa s = .next { s with
      a := r, f := flagByte s.f (r == 0) n false (c || (!n && decide (s.a.toNat > 0x99)))
      pc := s.pc + 1, cycles := some 4 }

/-- What `DAA` is for (42_alu8.md R210: "decimal-adjust the accumulator after a BCD addition or subtraction"): on two-digit
decimal operands, an addition or a subtraction followed by `DAA` gives the decimal result modulo 100, and `C` the decimal
carry or borrow. The reading as decimal numbers is the statement's own. The operations before it are
`ADD A,n8` (R198) and `SUB n8` (R200). -/
def Obligations.DecimalArithmeticIsExact : Prop :=
  ∀ (s : State) (x y : Nat), x < 100 → y < 100 → s.a = bcd x →
    (∃ t u, exec (.addA_n8 (bcd y)) s = .next t ∧ exec .daa t = .next u ∧
      u.a = bcd ((x + y) % 100) ∧ u.f.getLsbD 4 = decide (100 ≤ x + y) ∧ u.f.getLsbD 7 = decide ((x + y) % 100 = 0)) ∧
    (∃ t u, exec (.sub_n8 (bcd y)) s = .next t ∧ exec .daa t = .next u ∧
      u.a = bcd ((x + 100 - y) % 100) ∧ u.f.getLsbD 4 = decide (x < y) ∧ u.f.getLsbD 7 = decide (x = y))

/-- `CPL` (42_alu8.md R211), `SCF` (R212), `CCF` (R213). -/
def Obligations.AccumulatorAndCarryAdjust : Prop :=
  encode .cpl = [0x2F] ∧ encode .scf = [0x37] ∧ encode .ccf = [0x3F] ∧
  ∀ s : State,
    exec .cpl s = .next { s with
      a := ~~~s.a, f := flagByte s.f (s.f.getLsbD 7) true true (s.f.getLsbD 4), pc := s.pc + 1, cycles := some 4 } ∧
    exec .scf s = .next { s with
      f := flagByte s.f (s.f.getLsbD 7) false false true, pc := s.pc + 1, cycles := some 4 } ∧
    exec .ccf s = .next { s with
      f := flagByte s.f (s.f.getLsbD 7) false false (!s.f.getLsbD 4), pc := s.pc + 1, cycles := some 4 }

/-! ### 16-bit arithmetic -/

/-- `INC rp` (43_alu16.md R230) and `DEC rp` (R231): no flag is touched. -/
def Obligations.IncrementDecrementPair : Prop :=
  ∀ p : Pair,
    encode (incPairInstr p) = [0b00#2 ++ codePair p ++ 0b0011#4] ∧
    encode (decPairInstr p) = [0b00#2 ++ codePair p ++ 0b1011#4] ∧
    ∀ s : State,
      exec (incPairInstr p) s = .next { s.setPair p (s.pair p + 1) with pc := s.pc + 1, cycles := some 8 } ∧
      exec (decPairInstr p) s = .next { s.setPair p (s.pair p - 1) with pc := s.pc + 1, cycles := some 8 }

/-- `ADD HL,rp` (43_alu16.md R232): `Z` unchanged, `H` the carry out of bit 11, `C` the carry out of bit 15.
The bit-11 half-carry is the spec's own decision (92_eei_decisions.md D7). -/
def Obligations.AddToHL : Prop :=
  ∀ p : Pair, encode (addHLInstr p) = [0b00#2 ++ codePair p ++ 0b1001#4] ∧
    ∀ s : State, exec (addHLInstr p) s =
      .next { s with
        h := hi (s.hl + s.pair p), l := lo (s.hl + s.pair p)
        f := flagByte s.f (s.f.getLsbD 7) false (decide (0x0FFF < s.hl.toNat % 0x1000 + (s.pair p).toNat % 0x1000))
          (decide (0xFFFF < s.hl.toNat + (s.pair p).toNat))
        pc := s.pc + 1, cycles := some 8 }

/-! ### Rotates, shifts and bits -/

/-- `RLCA`, `RRCA`, `RLA`, `RRA` (44_rotate_bit.md R240 to R243): `Z` is cleared whatever the result. -/
def Obligations.AccumulatorRotates : Prop :=
  encode .rlca = [0x07] ∧ encode .rrca = [0x0F] ∧ encode .rla = [0x17] ∧ encode .rra = [0x1F] ∧
  ∀ s : State,
    let after (k : Fin 8) : State :=
      let x := rot k s.a (s.f.getLsbD 4)
      { s with a := x.1, f := flagByte s.f false false false x.2, pc := s.pc + 1, cycles := some 4 }
    exec .rlca s = .next (after 0) ∧ exec .rrca s = .next (after 1) ∧
    exec .rla s = .next (after 2) ∧ exec .rra s = .next (after 3)

/-- `RLC RRC RL RR SLA SRA SWAP SRL` on a register and on `(HL)` (44_rotate_bit.md R244 to R251). On `(HL)` the byte is written back
before the flags are, in the order of the pseudocode (00_scope.md R14), so a fault leaves the flags as they were. -/
def Obligations.RotateAndShift : Prop :=
  ∀ k : Fin 8,
    (∀ r : Reg8, encode (rotInstr k (.reg r)) = [0xCB, 0b00#2 ++ BitVec.ofNat 3 k.val ++ code8 (.reg r)] ∧
      ∀ s : State,
        let x := rot k (s.reg r) (s.f.getLsbD 4)
        exec (rotInstr k (.reg r)) s =
          .next { s.setReg r x.1 with
            f := flagByte s.f (x.1 == 0) false false x.2, pc := s.pc + 2, cycles := some 8 }) ∧
    encode (rotInstr k .atHL) = [0xCB, 0b00#2 ++ BitVec.ofNat 3 k.val ++ 0b110#3] ∧
    ∀ s : State,
      let x := rot k (s.read s.hl) (s.f.getLsbD 4)
      Writes (rotInstr k .atHL) s s s.hl x.1 2 16 (fun t => { t with f := flagByte s.f (x.1 == 0) false false x.2 })

/-- `BIT b,r8` (44_rotate_bit.md R252): flags `* 0 1 -`, nothing else written, never a fault. -/
def Obligations.TestBit : Prop :=
  ∀ (b : Fin 8) (x : R8), encode (.bit b x) = [0xCB, 0b01#2 ++ BitVec.ofNat 3 b.val ++ code8 x] ∧
    ∀ s : State,
      let v := match x with | .reg r => s.reg r | .atHL => s.read s.hl
      exec (.bit b x) s = .next { s with
        f := flagByte s.f (decide (v.toNat / 2 ^ b.val % 2 = 0)) false true (s.f.getLsbD 4)
        pc := s.pc + 2, cycles := some (match x with | .reg _ => 8 | .atHL => 12) }

/-- `RES b,r8` (44_rotate_bit.md R253) and `SET b,r8` (R254): no flag touched; the value has bit `b` as named and every other bit
as before. -/
def Obligations.ResetAndSetBit : Prop :=
  ∀ b : Fin 8,
    (∀ x : R8, encode (.res b x) = [0xCB, 0b10#2 ++ BitVec.ofNat 3 b.val ++ code8 x] ∧
      encode (.set b x) = [0xCB, 0b11#2 ++ BitVec.ofNat 3 b.val ++ code8 x]) ∧
    (∀ (v : Byte) (m : Fin 8), (clearBit v b).getLsbD m = (if m = b then false else v.getLsbD m) ∧
      (setBit v b).getLsbD m = (if m = b then true else v.getLsbD m)) ∧
    ∀ s : State,
      (∀ r : Reg8,
        exec (.res b (.reg r)) s =
          .next { s.setReg r (clearBit (s.reg r) b) with pc := s.pc + 2, cycles := some 8 } ∧
        exec (.set b (.reg r)) s =
          .next { s.setReg r (setBit (s.reg r) b) with pc := s.pc + 2, cycles := some 8 }) ∧
      Writes (.res b .atHL) s s s.hl (clearBit (s.read s.hl) b) 2 16 id ∧
      Writes (.set b .atHL) s s s.hl (setBit (s.read s.hl) b) 2 16 id

/-! ### Control transfer -/

/-- `JP a16` (45_control.md R270), `JP cc,a16` (R271), `JP HL` (R272). -/
def Obligations.AbsoluteJumps : Prop :=
  encode .jpHL = [0xE9] ∧ (∀ s : State, exec .jpHL s = .next { s with pc := s.hl, cycles := some 4 }) ∧
  ∀ a16 : Word, encode (.jp a16) = [0xC3, lo a16, hi a16] ∧
    (∀ s : State, exec (.jp a16) s = .next { s with pc := a16, cycles := some 16 }) ∧
    ∀ cc : Cond, encode (jpCondInstr cc a16) = [0b110#3 ++ codeCond cc ++ 0b010#3, lo a16, hi a16] ∧
      ∀ s : State, exec (jpCondInstr cc a16) s =
        .next (if holds s.f cc then { s with pc := a16, cycles := some 16 }
          else { s with pc := s.pc + 3, cycles := some 12 })

/-- `JR e8` (45_control.md R273) and `JR cc,e8` (R274): the signed displacement is added to the address of the next
instruction.
The base of the displacement is the spec's own decision (92_eei_decisions.md D9). -/
def Obligations.RelativeJumps : Prop :=
  ∀ e8 : Byte, encode (.jr e8) = [0x18, e8] ∧
    (∀ s : State, exec (.jr e8) s = .next { s with pc := s.pc + 2 + e8.signExtend 16, cycles := some 12 }) ∧
    ∀ cc : Cond, encode (jrCondInstr cc e8) = [0b001#3 ++ codeCond cc ++ 0b000#3, e8] ∧
      ∀ s : State, exec (jrCondInstr cc e8) s =
        .next (if holds s.f cc then { s with pc := s.pc + 2 + e8.signExtend 16, cycles := some 12 }
          else { s with pc := s.pc + 2, cycles := some 8 })

/-- `CALL a16` (45_control.md R280) and `CALL cc,a16` (R281): the address of the next instruction is pushed; nothing is pushed
where the condition is false. -/
def Obligations.Calls : Prop :=
  ∀ a16 : Word, encode (.call a16) = [0xCD, lo a16, hi a16] ∧
    (∀ s : State, Pushes (.call a16) s (s.pc + 3) a16 24) ∧
    ∀ cc : Cond, encode (callCondInstr cc a16) = [0b110#3 ++ codeCond cc ++ 0b100#3, lo a16, hi a16] ∧
      ∀ s : State,
        (holds s.f cc = true → Pushes (callCondInstr cc a16) s (s.pc + 3) a16 24) ∧
        (holds s.f cc = false →
          exec (callCondInstr cc a16) s = .next { s with pc := s.pc + 3, cycles := some 12 })

/-- `RET` (45_control.md R282), `RET cc` (R283), `RETI` (R284).
That `RETI` sets `ime` is the spec's own decision (92_eei_decisions.md D5). -/
def Obligations.Returns : Prop :=
  encode .ret = [0xC9] ∧ encode .reti = [0xD9] ∧
  (∀ cc : Cond, encode (retCondInstr cc) = [0b110#3 ++ codeCond cc ++ 0b000#3]) ∧
  ∀ s : State,
    let top := word (s.read (s.sp + 1)) (s.read s.sp)
    exec .ret s = .next { s with pc := top, sp := s.sp + 2, cycles := some 16 } ∧
    exec .reti s = .next { s with pc := top, sp := s.sp + 2, ime := true, cycles := some 16 } ∧
    ∀ cc : Cond, exec (retCondInstr cc) s =
      .next (if holds s.f cc then { s with pc := top, sp := s.sp + 2, cycles := some 20 }
        else { s with pc := s.pc + 1, cycles := some 8 })

/-- `RST t` (45_control.md R286, 30_encoding.md R109): a one-byte call to `y * 8`. -/
def Obligations.Restarts : Prop :=
  ∀ y : Fin 8, encode (rstInstr y) = [0b11#2 ++ BitVec.ofNat 3 y.val ++ 0b111#3] ∧
    ∀ s : State, Pushes (rstInstr y) s (s.pc + 1) (BitVec.ofNat 16 (y.val * 8)) 16

/-- A call and the return that follows it come back to the instruction after the call with `SP` restored, wherever the stack
bytes are writable (from 45_control.md R280, R282, R286 and 41_load16_stack.md R176). -/
def Obligations.CallThenReturnComesBack : Prop :=
  ∀ s : State, s.Inv → writable (s.sp - 1) → writable (s.sp - 2) →
    (∀ a16 : Word, ∃ t u, exec (.call a16) s = .next t ∧ t.pc = a16 ∧
      exec .ret t = .next u ∧ u.pc = s.pc + 3 ∧ u.sp = s.sp) ∧
    ∀ y : Fin 8, ∃ t u, exec (rstInstr y) s = .next t ∧ exec .ret t = .next u ∧ u.pc = s.pc + 1 ∧ u.sp = s.sp

/-! ### No-op, interrupt enable, unimplemented opcodes -/

/-- `NOP` (46_system.md R300), `DI` (R303), `EI` (R304).
The effect on `ime`, at once, is the spec's own decision (92_eei_decisions.md D5). -/
def Obligations.NopAndInterruptEnable : Prop :=
  encode .nop = [0x00] ∧ encode .di = [0xF3] ∧ encode .ei = [0xFB] ∧
  ∀ s : State,
    exec .nop s = .next { s with pc := s.pc + 1, cycles := some 4 } ∧
    exec .di s = .next { s with ime := false, pc := s.pc + 1, cycles := some 4 } ∧
    exec .ei s = .next { s with ime := true, pc := s.pc + 1, cycles := some 4 }

/-- `HALT` (46_system.md R301), `STOP` (R302) and the eleven unassigned opcodes (R306) raise `UnimplementedOpcode` with their byte
and `PC`, whatever the state, and leave all of it as it was.
That they fault is the spec's own decision (92_eei_decisions.md D3, D4). -/
def Obligations.UnimplementedOpcodesRaise : Prop :=
  ∀ x ∈ [(Instr.halt, (0x76 : Byte)), (.stop, 0x10), (.undefinedD3, 0xD3), (.undefinedDB, 0xDB), (.undefinedDD, 0xDD),
      (.undefinedE3, 0xE3), (.undefinedE4, 0xE4), (.undefinedEB, 0xEB), (.undefinedEC, 0xEC), (.undefinedED, 0xED),
      (.undefinedF4, 0xF4), (.undefinedFC, 0xFC), (.undefinedFD, 0xFD)],
    encode x.1 = [x.2] ∧ ∀ s : State, exec x.1 s = opcodeFault x.2 s

/-! ### Memory -/

/-- `MMU.read` by the address map, line by line (20_memory.md R56, with R57, R60 to R67, R69, R70): a byte for every address.
Work-RAM size and echo correspondence are the spec's own decisions (92_eei_decisions.md D11, D12). -/
def Obligations.ReadFollowsAddressMap : Prop :=
  ∀ (s : State) (a : Word), s.read a =
    if a.toNat ≤ 0x00FF ∧ s.bootDisabled = false then s.launch.bootRom.get a.toNat
    else if a.toNat ≤ 0x7FFF then s.launch.cartRom.get a.toNat
    else if a.toNat ≤ 0x9FFF then s.vram.get (a.toNat - 0x8000)
    else if a.toNat ≤ 0xBFFF then 0xFF
    else if a.toNat ≤ 0xDFFF then s.wram.get ((a.toNat - 0xC000) % s.launch.wramSize.bytes)
    else if a.toNat ≤ 0xFDFF then s.wram.get ((a.toNat - 0xE000) % s.launch.wramSize.bytes)
    else if a.toNat ≤ 0xFE9F then s.oam.get (a.toNat - 0xFE00)
    else if a.toNat ≤ 0xFEFF then 0xFF
    else if a.toNat ≤ 0xFF7F then s.io.get (a.toNat - 0xFF00)
    else if a.toNat ≤ 0xFFFE then s.hram.get (a.toNat - 0xFF80)
    else s.ie

/-- `MMU.write` by the address map (20_memory.md R53, R58, R61 to R70): one byte of one store, or nothing, or the fault; at 0xFF50
a nonzero byte also sets the latch (R68).
The spec's own decisions in it: 92_eei_decisions.md D11, D12, D16, D18. -/
def Obligations.WriteFollowsAddressMap : Prop :=
  ∀ (s : State) (a : Word) (v : Byte),
    (¬ absent a → write a v s = .next (s.store a v)) ∧
    write a v s =
      if a.toNat ≤ 0x7FFF then .next s
      else if a.toNat ≤ 0x9FFF then .next { s with vram := s.vram.set (a.toNat - 0x8000) v }
      else if a.toNat ≤ 0xBFFF then memoryFault a v s
      else if a.toNat ≤ 0xDFFF then
        .next { s with wram := s.wram.set ((a.toNat - 0xC000) % s.launch.wramSize.bytes) v }
      else if a.toNat ≤ 0xFDFF then
        .next { s with wram := s.wram.set ((a.toNat - 0xE000) % s.launch.wramSize.bytes) v }
      else if a.toNat ≤ 0xFE9F then .next { s with oam := s.oam.set (a.toNat - 0xFE00) v }
      else if a.toNat ≤ 0xFEFF then .next s
      else if a.toNat ≤ 0xFF7F then
        .next { s with
          io := s.io.set (a.toNat - 0xFF00) v
          bootDisabled := s.bootDisabled || decide (a = 0xFF50 ∧ v ≠ 0) }
      else if a.toNat ≤ 0xFFFE then .next { s with hram := s.hram.set (a.toNat - 0xFF80) v }
      else .next { s with ie := v }

/-- A read returns the byte last written, through whatever alias, echo RAM included (20_memory.md R64, R85).
Which echo address corresponds to which work-RAM address, and the two work-RAM sizes, are the spec's own decisions
(92_eei_decisions.md D12, D11). -/
def Obligations.ReadAfterWriteThroughAliases : Prop :=
  ∀ (s : State) (a b : Word) (v : Byte), s.Inv → writable a → aliases s.launch.wramSize a b →
    ∃ t, write a v s = .next t ∧ t.read b = v

/-- A word written reads back wherever both bytes are writable, low byte at the address, high byte behind it (20_memory.md R54,
R55, R80).
The byte order and the order of the two accesses are the spec's own decision (92_eei_decisions.md D1), the wrap of `a + 1` too
(D8). -/
def Obligations.WordWriteReadsBack : Prop :=
  ∀ (s : State) (a v : Word), s.Inv → writable a → writable (a + 1) →
    ∃ t, writeWord a v s = .next t ∧ t.readWord a = v ∧ t.read a = lo v ∧ t.read (a + 1) = hi v

/-- The overlay hand-over (20_memory.md R60, R68): a nonzero write to 0xFF50 sets the latch, the register reads back what was
written, and from then on the cartridge answers 0x0000-0x00FF, a later write of 0x00 included.
That a latch and not the register's value routes the window is the spec's own decision (92_eei_decisions.md D10). -/
def Obligations.OverlayHandOver : Prop :=
  ∀ (s : State) (v w : Byte), s.Inv → v ≠ 0 →
    ∃ t u, write 0xFF50 v s = .next t ∧ t.bootDisabled = true ∧ t.read 0xFF50 = v ∧
      write 0xFF50 w t = .next u ∧ u.read 0xFF50 = w ∧
      ∀ a : Word, a.toNat ≤ 0x00FF → t.read a = s.launch.cartRom.get a.toNat ∧ u.read a = s.launch.cartRom.get a.toNat

/-! ### The whole machine -/

/-- Every step keeps the invariant: the stores stay in canonical form and within their sizes, and the overlay disable register
reads nonzero only where the latch is set. -/
def Obligations.StepKeepsInvariant : Prop := ∀ s t : State, s.Inv → step s = .next t → t.Inv

/-- The state after reset meets the invariant. -/
def Obligations.ResetMeetsInvariant : Prop := State.reset.Inv

/-- The memory frame of every instruction: an address that selects none of the bytes the instruction stores to reads as before;
the one exception is the overlay window in the step that sets the latch. -/
def Obligations.MemoryFrame : Prop :=
  ∀ (i : Instr) (s t : State) (a : Word), s.Inv → exec i s = .next t →
    (∀ b ∈ storedAt i s, ¬ aliases s.launch.wramSize a b) →
    (0x00FF < a.toNat ∨ t.bootDisabled = s.bootDisabled) → t.read a = s.read a

/-- The overlay latch is one-way (10_state.md R31): no instruction clears it, and an instruction that sets it has left a nonzero
byte in the overlay disable register.
That a latch and not the register's value routes the window is the spec's own decision (92_eei_decisions.md D10). -/
def Obligations.OverlayLatchIsOneWay : Prop :=
  ∀ (i : Instr) (s t : State), s.Inv → exec i s = .next t →
    (s.bootDisabled = true → t.bootDisabled = true) ∧
    (s.bootDisabled = false → t.bootDisabled = true → t.read 0xFF50 ≠ 0)

/-- The launch parameters never change (70_reset_and_hazards.md R353), and the cartridge ROM past the overlay window reads the
same for ever (20_memory.md R57, R58). -/
def Obligations.RomNeverChanges : Prop :=
  ∀ (i : Instr) (s t : State), exec i s = .next t →
    t.launch = s.launch ∧ ∀ a : Word, 0x0100 ≤ a.toNat → a.toNat ≤ 0x7FFF → t.read a = s.read a

/-- Bits 3 to 0 of `F` are loaded by `POP AF` and left unchanged by every other instruction (10_state.md R26).
That these bits are storage, loaded by `POP AF`, is the spec's own decision (92_eei_decisions.md D6). -/
def Obligations.LowNibbleOfFlagsIsStorage : Prop :=
  (∀ (i : Instr) (s t : State), i ≠ .popAF → exec i s = .next t → t.f &&& 0x0F = s.f &&& 0x0F) ∧
  ∀ s t : State, exec .popAF s = .next t → t.f = s.read s.sp

/-- `ime` is written by `DI`, `EI` and `RETI` alone, and no instruction's behaviour depends on it (10_state.md R33): where an
instruction completes, it completes from the state that differs in `ime` alone, and with the same result but for `ime`.
`ime` and its three writers are the spec's own addition to the source (92_eei_decisions.md D5; notes/assumptions/14.md). -/
def Obligations.ImeIsWrittenByThreeAndReadByNone : Prop :=
  (∀ (i : Instr) (s t : State), i ≠ .di → i ≠ .ei → i ≠ .reti → exec i s = .next t → t.ime = s.ime) ∧
  ∀ (i : Instr) (s t : State) (b : Bool), exec i s = .next t →
    ∃ u, exec i { s with ime := b } = .next u ∧ { u with ime := t.ime } = t

/-- The faults of a step (60_exceptions.md R320, R321, R325): it never refuses; `UnimplementedOpcode` leaves all state as before;
`UnimplementedMemoryCapability` names an address in 0xA000-0xBFFF and leaves `PC`, `SP`, `ime` and every register but `F` as they
were.
What the second fault leaves in memory and in `F` is said by the statements of the single instructions.
That `op2`, with the `PC` of the prefix byte, is what a 0xCB opcode reports is the spec's own decision (92_eei_decisions.md D28);
that a fault carries the state it leaves is the model's form (notes/assumptions/7.md). -/
def Obligations.StepFaultsAsStated : Prop :=
  ∀ s : State,
    (∀ r, step s ≠ .refused r) ∧
    (∀ op pc w, step s = .fault (.unimplementedOpcode op pc w) →
      s.fault = none ∧ pc = s.pc ∧ (op = s.read s.pc ∨ (s.read s.pc = 0xCB ∧ op = s.read (s.pc + 1))) ∧
      w = { s with fault := some (.unimplementedOpcode op pc), cycles := none }) ∧
    (∀ a v w, step s = .fault (.unimplementedMemoryCapability a v w) →
      s.fault = none ∧ absent a ∧ w.fault = some (.unimplementedMemoryCapability a v) ∧ w.cycles = none ∧
      w.pc = s.pc ∧ w.sp = s.sp ∧ w.ime = s.ime ∧ w.launch = s.launch ∧
      w.a = s.a ∧ w.b = s.b ∧ w.c = s.c ∧ w.d = s.d ∧ w.e = s.e ∧ w.h = s.h ∧ w.l = s.l)

/-- Every completed step returns a count that is a multiple of 4 between 4 and 24 (70_reset_and_hazards.md R371). -/
def Obligations.CycleCountsAreInRange : Prop :=
  ∀ s t : State, step s = .next t →
    ∃ n : Byte, t.cycles = some n ∧ n.toNat % 4 = 0 ∧ 4 ≤ n.toNat ∧ n.toNat ≤ 24

/-- A finished program stays finished (70_reset_and_hazards.md R364): `JR -2` re-executes itself and changes nothing but the
count returned, 12.
That `JR -2` marks a finished program is a convention of the spec's own (92_eei_decisions.md D23), the base of the displacement
its own decision (D9). -/
def Obligations.EndMarkerLoopsForEver : Prop :=
  ∀ s : State, s.finished = true → mayRun s →
    step s = .next { s with cycles := some 12 } ∧ ({ s with cycles := some 12 } : State).finished = true

/-! ### Reset and the host -/

/-- Every machine the host builds is in its reset state (10_state.md R40, R41): registers zero, `ime` 0, the overlay on, 0xFF50
reading zero, no fault, no count; it meets the invariant; and its first opcode is `BOOT_ROM[0]` (70 R351).
That `ime` is 0 is the spec's own decision (92_eei_decisions.md D5); the invariant and the count are the model's own
(notes/assumptions/6.md). -/
def Obligations.ConstructedMachineIsReset : Prop :=
  ∀ (p : LaunchParams) (s : State), construct p = .ok s →
    s.af = 0 ∧ s.bc = 0 ∧ s.de = 0 ∧ s.hl = 0 ∧ s.sp = 0 ∧ s.pc = 0 ∧ s.ime = false ∧ s.bootDisabled = false ∧
    s.read 0xFF50 = 0 ∧ s.fault = none ∧ s.cycles = none ∧ s.Inv ∧
    s.read s.pc = p.bootRom[0] ∧ ∀ k : Fin 256, s.read (BitVec.ofNat 16 k.val) = p.bootRom[k]

/-- The cartridge (20_memory.md R71, 60_exceptions.md R322): an image of more than 65535 bytes builds no machine; any other is
zero-padded and answers reads of 0x0100-0x7FFF. -/
def Obligations.CartridgeImageIsCheckedAndPadded : Prop :=
  ∀ (p : LaunchParams) (image : List Byte),
    (65535 < image.length → construct { p with cartridge := .fixedRom image } = .error .invalidCartridge) ∧
    (image.length ≤ 65535 → ∃ s, construct { p with cartridge := .fixedRom image } = .ok s ∧
      (∀ k : Nat, s.launch.cartRom.get k = image.getD k 0) ∧
      ∀ a : Word, 0x0100 ≤ a.toNat → a.toNat ≤ 0x7FFF → s.read a = image.getD a.toNat 0)

/-- `State.reset` has the reset values the spec gives (10_state.md R40, R41, R42).
That `ime` is 0 is the spec's own decision (92_eei_decisions.md D5). -/
def Obligations.ResetValues : Prop :=
  State.reset.af = 0 ∧ State.reset.bc = 0 ∧ State.reset.de = 0 ∧ State.reset.hl = 0 ∧ State.reset.sp = 0 ∧
  State.reset.pc = 0 ∧ State.reset.ime = false ∧ State.reset.bootDisabled = false ∧ State.reset.read 0xFF50 = 0 ∧
  State.reset.fault = none

/-- `video_memory()` is the 8192 bytes at 0x8000 to 0x9FFF in ascending order (70_reset_and_hazards.md R363). -/
def Obligations.VideoMemoryIsTheWindow : Prop :=
  ∀ s : State, s.videoMemory.length = 8192 ∧
    ∀ k : Nat, k < 8192 → s.videoMemory[k]? = some (s.read (BitVec.ofNat 16 (0x8000 + k)))

/-! ### The end of a run -/

/-- The end state of a program (70_reset_and_hazards.md R364) is the state at the first moment `PC` holds `JR -2`: a finished state
ends where it stands; any other ends where the state after its step does, and has no end where the step faults; a run has at
most one end state, and a faulted machine is none.
That `JR -2` marks a finished program is a convention of the spec's own (92_eei_decisions.md D23); that its bytes alone decide, also
where `ADMITTED_OPCODES` leaves 0x18 out, is the model's choice (notes/assumptions/16.md). -/
def Obligations.EndStateIsTheFirstFinished : Prop :=
  ∀ s t : State,
    (s.finished = true → (EndsIn s t ↔ t = s)) ∧
    (s.finished = false → (EndsIn s t ↔ ∃ u, step s = .next u ∧ EndsIn u t)) ∧
    (EndsIn s t → t.finished = true ∧ t.fault = none ∧ ∀ u : State, EndsIn s u → u = t)
end

