-- ==== Sys2Proof/Laws/Memory.lean ====
section
/-! SUPPORT. What a store's read and write do, and that every operation on a store keeps its canonical form and its size. -/

namespace Sys2Proof.Machine

/-- A store in canonical form from `low` on is one from any lower offset on. -/
theorem Memory.wfFrom_mono {m : Memory} {low low' : Nat} (h : Memory.wfFrom low m = true) (hl : low' ≤ low) :
    Memory.wfFrom low' m = true := by
  cases m with
  | nil => rfl
  | cons cell rest =>
    obtain ⟨k, v⟩ := cell
    simp only [Memory.wfFrom, Bool.and_eq_true, decide_eq_true_eq] at h ⊢
    exact ⟨⟨by omega, h.1.2⟩, h.2⟩

/-- Below its first offset a store in canonical form lists nothing. -/
theorem Memory.get_low {m : Memory} {low : Nat} (h : Memory.wfFrom low m = true) {n : Nat} (hn : n < low) :
    Memory.get m n = Memory.unlisted := by
  induction m generalizing low with
  | nil => rfl
  | cons cell rest ih =>
    obtain ⟨k, v⟩ := cell
    simp only [Memory.wfFrom, Bool.and_eq_true, decide_eq_true_eq] at h
    have hk : ¬ n = k := by omega
    simp only [Memory.get, hk, if_false]
    exact ih h.2 (by omega)

/-- A write reads back where it was made and changes no other offset. -/
theorem Memory.get_set {m : Memory} {low : Nat} (h : Memory.wfFrom low m = true) (n k : Nat) (v : Byte) :
    (Memory.set m n v).get k = if k = n then v else m.get k := by
  induction m generalizing low with
  | nil => by_cases hv : v = Memory.unlisted <;> by_cases hk : k = n <;> simp [Memory.set, Memory.get, hv, hk]
  | cons cell rest ih =>
    obtain ⟨j, w⟩ := cell
    simp only [Memory.wfFrom, Bool.and_eq_true, decide_eq_true_eq] at h
    have out : ∀ i, i ≤ j → Memory.get rest i = Memory.unlisted := fun i hi => Memory.get_low h.2 (by omega)
    by_cases hk : k = n
    · subst hk
      simp only [if_true, Memory.set]
      split_ifs with h1 h2 h3 h4
      · have : ¬ k = j := by omega
        simp [Memory.get, this, out k (by omega), h2]
      · simp [Memory.get]
      · simp [out k (by omega), h4]
      · simp [Memory.get]
      · simp [Memory.get, h3, ih h.2]
    · simp only [hk, if_false, Memory.set]
      split_ifs with h1 h2 h3 h4
      · rfl
      · simp [Memory.get, hk]
      · subst h3; simp [Memory.get, hk]
      · subst h3; simp [Memory.get, hk]
      · simp [Memory.get, ih h.2, hk]

/-- A write keeps the canonical form. -/
theorem Memory.wfFrom_set {m : Memory} {low : Nat} (h : Memory.wfFrom low m = true) {n : Nat} (hn : low ≤ n) (v : Byte) :
    Memory.wfFrom low (Memory.set m n v) = true := by
  induction m generalizing low with
  | nil => by_cases hv : v = Memory.unlisted <;> simp [Memory.set, Memory.wfFrom, hv, hn]
  | cons cell rest ih =>
    obtain ⟨j, w⟩ := cell
    have hc := h
    simp only [Memory.wfFrom, Bool.and_eq_true, decide_eq_true_eq] at hc
    simp only [Memory.set]
    split_ifs with h1 h2 h3 h4
    · exact h
    · have : n + 1 ≤ j := by omega
      simp [Memory.wfFrom, hn, h2, this, hc.1.2, hc.2]
    · exact Memory.wfFrom_mono hc.2 (by omega)
    · subst h3
      simp [Memory.wfFrom, hn, h4, hc.2]
    · have := ih hc.2 (show j + 1 ≤ n by omega)
      simp [Memory.wfFrom, hc.1.1, hc.1.2, this]

theorem Memory.wf_set {m : Memory} (h : m.wf = true) (n : Nat) (v : Byte) : (m.set n v).wf = true :=
  Memory.wfFrom_set h (Nat.zero_le n) v

/-- A write below a store's size stays below it. -/
theorem Memory.below_set {m : Memory} {size : Nat} (h : m.below size = true) {n : Nat} (hn : n < size) (v : Byte) :
    (m.set n v).below size = true := by
  induction m with
  | nil => by_cases hv : v = Memory.unlisted <;> simp [Memory.set, Memory.below, hv, hn]
  | cons cell rest ih =>
    obtain ⟨j, w⟩ := cell
    have hc := h
    simp only [Memory.below, List.all_cons, Bool.and_eq_true, decide_eq_true_eq] at hc ih
    simp only [Memory.set]
    split_ifs
    · exact h
    · simp [Memory.below, hn, hc.1, hc.2]
    · exact hc.2
    · simp [Memory.below, hn, hc.2]
    · simp only [Memory.below, List.all_cons, Bool.and_eq_true, decide_eq_true_eq]
      exact ⟨hc.1, ih hc.2⟩

/-- A store built from bytes is in canonical form. -/
theorem Memory.wfFrom_ofBytesFrom (bytes : List Byte) (n : Nat) : Memory.wfFrom n (Memory.ofBytesFrom n bytes) = true := by
  induction bytes generalizing n with
  | nil => rfl
  | cons v rest ih =>
    simp only [Memory.ofBytesFrom]
    split_ifs with hv
    · exact Memory.wfFrom_mono (ih (n + 1)) (by omega)
    · simp [Memory.wfFrom, hv, ih (n + 1)]

theorem Memory.wf_ofBytes (bytes : List Byte) : (Memory.ofBytes bytes).wf = true := Memory.wfFrom_ofBytesFrom bytes 0

theorem Memory.below_ofBytesFrom (bytes : List Byte) (n : Nat) :
    (Memory.ofBytesFrom n bytes).below (n + bytes.length) = true := by
  induction bytes generalizing n with
  | nil => rfl
  | cons v rest ih =>
    have e : n + (v :: rest).length = n + 1 + rest.length := by simp only [List.length_cons]; omega
    rw [e]
    simp only [Memory.ofBytesFrom]
    split_ifs
    · exact ih (n + 1)
    · have := ih (n + 1)
      simp only [Memory.below, List.all_cons, Bool.and_eq_true, decide_eq_true_eq] at this ⊢
      exact ⟨by omega, this⟩

theorem Memory.below_mono {m : Memory} {k size : Nat} (h : m.below k = true) (hk : k ≤ size) : m.below size = true := by
  simp only [Memory.below, List.all_eq_true, decide_eq_true_eq] at h ⊢
  intro x hx
  exact Nat.lt_of_lt_of_le (h x hx) hk

/-- What a store built from bytes reads as: the bytes, then what an unlisted offset reads as. -/
theorem Memory.get_ofBytesFrom (bytes : List Byte) (n k : Nat) :
    Memory.get (Memory.ofBytesFrom n bytes) (n + k) = bytes.getD k Memory.unlisted := by
  induction bytes generalizing n k with
  | nil => rfl
  | cons v rest ih =>
    have low : Memory.get (Memory.ofBytesFrom (n + 1) rest) n = Memory.unlisted :=
      Memory.get_low (Memory.wfFrom_ofBytesFrom rest (n + 1)) (by omega)
    cases k with
    | zero =>
      simp only [Memory.ofBytesFrom]
      split_ifs with hv
      · simpa [hv] using low
      · simp [Memory.get]
    | succ k =>
      have e : n + (k + 1) = n + 1 + k := by omega
      have ne : ¬ n + 1 + k = n := by omega
      simp only [Memory.ofBytesFrom, e, List.getD_cons_succ]
      split_ifs
      · exact ih (n + 1) k
      · simp only [Memory.get, ne, if_false]
        exact ih (n + 1) k

theorem Memory.get_ofBytes (bytes : List Byte) (k : Nat) : (Memory.ofBytes bytes).get k = bytes.getD k Memory.unlisted := by
  simpa [Memory.ofBytes] using Memory.get_ofBytesFrom bytes 0 k

end Sys2Proof.Machine
end

