-- ==== Sys2Proof/Laws/State.lean ====
section
/-! SUPPORT. One lemma per field per update of the state. -/

namespace Sys2Proof.Machine

/-! ### `setFlags` -/

@[simp] theorem State.setFlags_a (s : State) (z n h c : Bool) : (s.setFlags z n h c).a = s.a := rfl
@[simp] theorem State.setFlags_f (s : State) (z n h c : Bool) : (s.setFlags z n h c).f = packFlags s.f z n h c := rfl
@[simp] theorem State.setFlags_b (s : State) (z n h c : Bool) : (s.setFlags z n h c).b = s.b := rfl
@[simp] theorem State.setFlags_c (s : State) (z n h c : Bool) : (s.setFlags z n h c).c = s.c := rfl
@[simp] theorem State.setFlags_d (s : State) (z n h c : Bool) : (s.setFlags z n h c).d = s.d := rfl
@[simp] theorem State.setFlags_e (s : State) (z n h c : Bool) : (s.setFlags z n h c).e = s.e := rfl
@[simp] theorem State.setFlags_h (s : State) (z n h c : Bool) : (s.setFlags z n h c).h = s.h := rfl
@[simp] theorem State.setFlags_l (s : State) (z n h c : Bool) : (s.setFlags z n h c).l = s.l := rfl
@[simp] theorem State.setFlags_sp (s : State) (z n h c : Bool) : (s.setFlags z n h c).sp = s.sp := rfl
@[simp] theorem State.setFlags_pc (s : State) (z n h c : Bool) : (s.setFlags z n h c).pc = s.pc := rfl
@[simp] theorem State.setFlags_ime (s : State) (z n h c : Bool) : (s.setFlags z n h c).ime = s.ime := rfl
@[simp] theorem State.setFlags_bootDisabled (s : State) (z n h c : Bool) : (s.setFlags z n h c).bootDisabled = s.bootDisabled := rfl
@[simp] theorem State.setFlags_vram (s : State) (z n h c : Bool) : (s.setFlags z n h c).vram = s.vram := rfl
@[simp] theorem State.setFlags_oam (s : State) (z n h c : Bool) : (s.setFlags z n h c).oam = s.oam := rfl
@[simp] theorem State.setFlags_wram (s : State) (z n h c : Bool) : (s.setFlags z n h c).wram = s.wram := rfl
@[simp] theorem State.setFlags_io (s : State) (z n h c : Bool) : (s.setFlags z n h c).io = s.io := rfl
@[simp] theorem State.setFlags_hram (s : State) (z n h c : Bool) : (s.setFlags z n h c).hram = s.hram := rfl
@[simp] theorem State.setFlags_ie (s : State) (z n h c : Bool) : (s.setFlags z n h c).ie = s.ie := rfl
@[simp] theorem State.setFlags_fault (s : State) (z n h c : Bool) : (s.setFlags z n h c).fault = s.fault := rfl
@[simp] theorem State.setFlags_cycles (s : State) (z n h c : Bool) : (s.setFlags z n h c).cycles = s.cycles := rfl
@[simp] theorem State.setFlags_launch (s : State) (z n h c : Bool) : (s.setFlags z n h c).launch = s.launch := rfl

/-! ### `goto` -/

@[simp] theorem State.goto_a (s : State) (p : Word) (n : Byte) : (s.goto p n).a = s.a := rfl
@[simp] theorem State.goto_f (s : State) (p : Word) (n : Byte) : (s.goto p n).f = s.f := rfl
@[simp] theorem State.goto_b (s : State) (p : Word) (n : Byte) : (s.goto p n).b = s.b := rfl
@[simp] theorem State.goto_c (s : State) (p : Word) (n : Byte) : (s.goto p n).c = s.c := rfl
@[simp] theorem State.goto_d (s : State) (p : Word) (n : Byte) : (s.goto p n).d = s.d := rfl
@[simp] theorem State.goto_e (s : State) (p : Word) (n : Byte) : (s.goto p n).e = s.e := rfl
@[simp] theorem State.goto_h (s : State) (p : Word) (n : Byte) : (s.goto p n).h = s.h := rfl
@[simp] theorem State.goto_l (s : State) (p : Word) (n : Byte) : (s.goto p n).l = s.l := rfl
@[simp] theorem State.goto_sp (s : State) (p : Word) (n : Byte) : (s.goto p n).sp = s.sp := rfl
@[simp] theorem State.goto_pc (s : State) (p : Word) (n : Byte) : (s.goto p n).pc = p := rfl
@[simp] theorem State.goto_ime (s : State) (p : Word) (n : Byte) : (s.goto p n).ime = s.ime := rfl
@[simp] theorem State.goto_bootDisabled (s : State) (p : Word) (n : Byte) : (s.goto p n).bootDisabled = s.bootDisabled := rfl
@[simp] theorem State.goto_vram (s : State) (p : Word) (n : Byte) : (s.goto p n).vram = s.vram := rfl
@[simp] theorem State.goto_oam (s : State) (p : Word) (n : Byte) : (s.goto p n).oam = s.oam := rfl
@[simp] theorem State.goto_wram (s : State) (p : Word) (n : Byte) : (s.goto p n).wram = s.wram := rfl
@[simp] theorem State.goto_io (s : State) (p : Word) (n : Byte) : (s.goto p n).io = s.io := rfl
@[simp] theorem State.goto_hram (s : State) (p : Word) (n : Byte) : (s.goto p n).hram = s.hram := rfl
@[simp] theorem State.goto_ie (s : State) (p : Word) (n : Byte) : (s.goto p n).ie = s.ie := rfl
@[simp] theorem State.goto_fault (s : State) (p : Word) (n : Byte) : (s.goto p n).fault = s.fault := rfl
@[simp] theorem State.goto_cycles (s : State) (p : Word) (n : Byte) : (s.goto p n).cycles = some n := rfl
@[simp] theorem State.goto_launch (s : State) (p : Word) (n : Byte) : (s.goto p n).launch = s.launch := rfl

/-! ### `advance` -/

@[simp] theorem State.advance_a (s : State) (len : Word) (n : Byte) : (s.advance len n).a = s.a := rfl
@[simp] theorem State.advance_f (s : State) (len : Word) (n : Byte) : (s.advance len n).f = s.f := rfl
@[simp] theorem State.advance_b (s : State) (len : Word) (n : Byte) : (s.advance len n).b = s.b := rfl
@[simp] theorem State.advance_c (s : State) (len : Word) (n : Byte) : (s.advance len n).c = s.c := rfl
@[simp] theorem State.advance_d (s : State) (len : Word) (n : Byte) : (s.advance len n).d = s.d := rfl
@[simp] theorem State.advance_e (s : State) (len : Word) (n : Byte) : (s.advance len n).e = s.e := rfl
@[simp] theorem State.advance_h (s : State) (len : Word) (n : Byte) : (s.advance len n).h = s.h := rfl
@[simp] theorem State.advance_l (s : State) (len : Word) (n : Byte) : (s.advance len n).l = s.l := rfl
@[simp] theorem State.advance_sp (s : State) (len : Word) (n : Byte) : (s.advance len n).sp = s.sp := rfl
@[simp] theorem State.advance_pc (s : State) (len : Word) (n : Byte) : (s.advance len n).pc = s.pc + len := rfl
@[simp] theorem State.advance_ime (s : State) (len : Word) (n : Byte) : (s.advance len n).ime = s.ime := rfl
@[simp] theorem State.advance_bootDisabled (s : State) (len : Word) (n : Byte) : (s.advance len n).bootDisabled = s.bootDisabled := rfl
@[simp] theorem State.advance_vram (s : State) (len : Word) (n : Byte) : (s.advance len n).vram = s.vram := rfl
@[simp] theorem State.advance_oam (s : State) (len : Word) (n : Byte) : (s.advance len n).oam = s.oam := rfl
@[simp] theorem State.advance_wram (s : State) (len : Word) (n : Byte) : (s.advance len n).wram = s.wram := rfl
@[simp] theorem State.advance_io (s : State) (len : Word) (n : Byte) : (s.advance len n).io = s.io := rfl
@[simp] theorem State.advance_hram (s : State) (len : Word) (n : Byte) : (s.advance len n).hram = s.hram := rfl
@[simp] theorem State.advance_ie (s : State) (len : Word) (n : Byte) : (s.advance len n).ie = s.ie := rfl
@[simp] theorem State.advance_fault (s : State) (len : Word) (n : Byte) : (s.advance len n).fault = s.fault := rfl
@[simp] theorem State.advance_cycles (s : State) (len : Word) (n : Byte) : (s.advance len n).cycles = some n := rfl
@[simp] theorem State.advance_launch (s : State) (len : Word) (n : Byte) : (s.advance len n).launch = s.launch := rfl

/-! ### `dropTop` -/

@[simp] theorem State.dropTop_a (s : State) : (s.dropTop).a = s.a := rfl
@[simp] theorem State.dropTop_f (s : State) : (s.dropTop).f = s.f := rfl
@[simp] theorem State.dropTop_b (s : State) : (s.dropTop).b = s.b := rfl
@[simp] theorem State.dropTop_c (s : State) : (s.dropTop).c = s.c := rfl
@[simp] theorem State.dropTop_d (s : State) : (s.dropTop).d = s.d := rfl
@[simp] theorem State.dropTop_e (s : State) : (s.dropTop).e = s.e := rfl
@[simp] theorem State.dropTop_h (s : State) : (s.dropTop).h = s.h := rfl
@[simp] theorem State.dropTop_l (s : State) : (s.dropTop).l = s.l := rfl
@[simp] theorem State.dropTop_sp (s : State) : (s.dropTop).sp = s.sp + 2 := rfl
@[simp] theorem State.dropTop_pc (s : State) : (s.dropTop).pc = s.pc := rfl
@[simp] theorem State.dropTop_ime (s : State) : (s.dropTop).ime = s.ime := rfl
@[simp] theorem State.dropTop_bootDisabled (s : State) : (s.dropTop).bootDisabled = s.bootDisabled := rfl
@[simp] theorem State.dropTop_vram (s : State) : (s.dropTop).vram = s.vram := rfl
@[simp] theorem State.dropTop_oam (s : State) : (s.dropTop).oam = s.oam := rfl
@[simp] theorem State.dropTop_wram (s : State) : (s.dropTop).wram = s.wram := rfl
@[simp] theorem State.dropTop_io (s : State) : (s.dropTop).io = s.io := rfl
@[simp] theorem State.dropTop_hram (s : State) : (s.dropTop).hram = s.hram := rfl
@[simp] theorem State.dropTop_ie (s : State) : (s.dropTop).ie = s.ie := rfl
@[simp] theorem State.dropTop_fault (s : State) : (s.dropTop).fault = s.fault := rfl
@[simp] theorem State.dropTop_cycles (s : State) : (s.dropTop).cycles = s.cycles := rfl
@[simp] theorem State.dropTop_launch (s : State) : (s.dropTop).launch = s.launch := rfl

/-! ### `wreck` -/

@[simp] theorem State.wreck_a (s : State) (r : FaultReport) : (s.wreck r).a = s.a := rfl
@[simp] theorem State.wreck_f (s : State) (r : FaultReport) : (s.wreck r).f = s.f := rfl
@[simp] theorem State.wreck_b (s : State) (r : FaultReport) : (s.wreck r).b = s.b := rfl
@[simp] theorem State.wreck_c (s : State) (r : FaultReport) : (s.wreck r).c = s.c := rfl
@[simp] theorem State.wreck_d (s : State) (r : FaultReport) : (s.wreck r).d = s.d := rfl
@[simp] theorem State.wreck_e (s : State) (r : FaultReport) : (s.wreck r).e = s.e := rfl
@[simp] theorem State.wreck_h (s : State) (r : FaultReport) : (s.wreck r).h = s.h := rfl
@[simp] theorem State.wreck_l (s : State) (r : FaultReport) : (s.wreck r).l = s.l := rfl
@[simp] theorem State.wreck_sp (s : State) (r : FaultReport) : (s.wreck r).sp = s.sp := rfl
@[simp] theorem State.wreck_pc (s : State) (r : FaultReport) : (s.wreck r).pc = s.pc := rfl
@[simp] theorem State.wreck_ime (s : State) (r : FaultReport) : (s.wreck r).ime = s.ime := rfl
@[simp] theorem State.wreck_bootDisabled (s : State) (r : FaultReport) : (s.wreck r).bootDisabled = s.bootDisabled := rfl
@[simp] theorem State.wreck_vram (s : State) (r : FaultReport) : (s.wreck r).vram = s.vram := rfl
@[simp] theorem State.wreck_oam (s : State) (r : FaultReport) : (s.wreck r).oam = s.oam := rfl
@[simp] theorem State.wreck_wram (s : State) (r : FaultReport) : (s.wreck r).wram = s.wram := rfl
@[simp] theorem State.wreck_io (s : State) (r : FaultReport) : (s.wreck r).io = s.io := rfl
@[simp] theorem State.wreck_hram (s : State) (r : FaultReport) : (s.wreck r).hram = s.hram := rfl
@[simp] theorem State.wreck_ie (s : State) (r : FaultReport) : (s.wreck r).ie = s.ie := rfl
@[simp] theorem State.wreck_fault (s : State) (r : FaultReport) : (s.wreck r).fault = some r := rfl
@[simp] theorem State.wreck_cycles (s : State) (r : FaultReport) : (s.wreck r).cycles = none := rfl
@[simp] theorem State.wreck_launch (s : State) (r : FaultReport) : (s.wreck r).launch = s.launch := rfl

/-! ### `setReg` -/

@[simp] theorem State.setReg_f (s : State) (r : Reg8) (v : Byte) : (s.setReg r v).f = s.f := by cases r <;> rfl
@[simp] theorem State.setReg_sp (s : State) (r : Reg8) (v : Byte) : (s.setReg r v).sp = s.sp := by cases r <;> rfl
@[simp] theorem State.setReg_pc (s : State) (r : Reg8) (v : Byte) : (s.setReg r v).pc = s.pc := by cases r <;> rfl
@[simp] theorem State.setReg_ime (s : State) (r : Reg8) (v : Byte) : (s.setReg r v).ime = s.ime := by cases r <;> rfl
@[simp] theorem State.setReg_bootDisabled (s : State) (r : Reg8) (v : Byte) : (s.setReg r v).bootDisabled = s.bootDisabled := by cases r <;> rfl
@[simp] theorem State.setReg_vram (s : State) (r : Reg8) (v : Byte) : (s.setReg r v).vram = s.vram := by cases r <;> rfl
@[simp] theorem State.setReg_oam (s : State) (r : Reg8) (v : Byte) : (s.setReg r v).oam = s.oam := by cases r <;> rfl
@[simp] theorem State.setReg_wram (s : State) (r : Reg8) (v : Byte) : (s.setReg r v).wram = s.wram := by cases r <;> rfl
@[simp] theorem State.setReg_io (s : State) (r : Reg8) (v : Byte) : (s.setReg r v).io = s.io := by cases r <;> rfl
@[simp] theorem State.setReg_hram (s : State) (r : Reg8) (v : Byte) : (s.setReg r v).hram = s.hram := by cases r <;> rfl
@[simp] theorem State.setReg_ie (s : State) (r : Reg8) (v : Byte) : (s.setReg r v).ie = s.ie := by cases r <;> rfl
@[simp] theorem State.setReg_fault (s : State) (r : Reg8) (v : Byte) : (s.setReg r v).fault = s.fault := by cases r <;> rfl
@[simp] theorem State.setReg_cycles (s : State) (r : Reg8) (v : Byte) : (s.setReg r v).cycles = s.cycles := by cases r <;> rfl
@[simp] theorem State.setReg_launch (s : State) (r : Reg8) (v : Byte) : (s.setReg r v).launch = s.launch := by cases r <;> rfl

/-! ### `setPair` -/

@[simp] theorem State.setPair_a (s : State) (p : Pair) (v : Word) : (s.setPair p v).a = s.a := by cases p <;> rfl
@[simp] theorem State.setPair_f (s : State) (p : Pair) (v : Word) : (s.setPair p v).f = s.f := by cases p <;> rfl
@[simp] theorem State.setPair_pc (s : State) (p : Pair) (v : Word) : (s.setPair p v).pc = s.pc := by cases p <;> rfl
@[simp] theorem State.setPair_ime (s : State) (p : Pair) (v : Word) : (s.setPair p v).ime = s.ime := by cases p <;> rfl
@[simp] theorem State.setPair_bootDisabled (s : State) (p : Pair) (v : Word) : (s.setPair p v).bootDisabled = s.bootDisabled := by cases p <;> rfl
@[simp] theorem State.setPair_vram (s : State) (p : Pair) (v : Word) : (s.setPair p v).vram = s.vram := by cases p <;> rfl
@[simp] theorem State.setPair_oam (s : State) (p : Pair) (v : Word) : (s.setPair p v).oam = s.oam := by cases p <;> rfl
@[simp] theorem State.setPair_wram (s : State) (p : Pair) (v : Word) : (s.setPair p v).wram = s.wram := by cases p <;> rfl
@[simp] theorem State.setPair_io (s : State) (p : Pair) (v : Word) : (s.setPair p v).io = s.io := by cases p <;> rfl
@[simp] theorem State.setPair_hram (s : State) (p : Pair) (v : Word) : (s.setPair p v).hram = s.hram := by cases p <;> rfl
@[simp] theorem State.setPair_ie (s : State) (p : Pair) (v : Word) : (s.setPair p v).ie = s.ie := by cases p <;> rfl
@[simp] theorem State.setPair_fault (s : State) (p : Pair) (v : Word) : (s.setPair p v).fault = s.fault := by cases p <;> rfl
@[simp] theorem State.setPair_cycles (s : State) (p : Pair) (v : Word) : (s.setPair p v).cycles = s.cycles := by cases p <;> rfl
@[simp] theorem State.setPair_launch (s : State) (p : Pair) (v : Word) : (s.setPair p v).launch = s.launch := by cases p <;> rfl

/-! ### `setStackPair` -/

@[simp] theorem State.setStackPair_sp (s : State) (p : StackPair) (v : Word) : (s.setStackPair p v).sp = s.sp := by cases p <;> rfl
@[simp] theorem State.setStackPair_pc (s : State) (p : StackPair) (v : Word) : (s.setStackPair p v).pc = s.pc := by cases p <;> rfl
@[simp] theorem State.setStackPair_ime (s : State) (p : StackPair) (v : Word) : (s.setStackPair p v).ime = s.ime := by cases p <;> rfl
@[simp] theorem State.setStackPair_bootDisabled (s : State) (p : StackPair) (v : Word) : (s.setStackPair p v).bootDisabled = s.bootDisabled := by cases p <;> rfl
@[simp] theorem State.setStackPair_vram (s : State) (p : StackPair) (v : Word) : (s.setStackPair p v).vram = s.vram := by cases p <;> rfl
@[simp] theorem State.setStackPair_oam (s : State) (p : StackPair) (v : Word) : (s.setStackPair p v).oam = s.oam := by cases p <;> rfl
@[simp] theorem State.setStackPair_wram (s : State) (p : StackPair) (v : Word) : (s.setStackPair p v).wram = s.wram := by cases p <;> rfl
@[simp] theorem State.setStackPair_io (s : State) (p : StackPair) (v : Word) : (s.setStackPair p v).io = s.io := by cases p <;> rfl
@[simp] theorem State.setStackPair_hram (s : State) (p : StackPair) (v : Word) : (s.setStackPair p v).hram = s.hram := by cases p <;> rfl
@[simp] theorem State.setStackPair_ie (s : State) (p : StackPair) (v : Word) : (s.setStackPair p v).ie = s.ie := by cases p <;> rfl
@[simp] theorem State.setStackPair_fault (s : State) (p : StackPair) (v : Word) : (s.setStackPair p v).fault = s.fault := by cases p <;> rfl
@[simp] theorem State.setStackPair_cycles (s : State) (p : StackPair) (v : Word) : (s.setStackPair p v).cycles = s.cycles := by cases p <;> rfl
@[simp] theorem State.setStackPair_launch (s : State) (p : StackPair) (v : Word) : (s.setStackPair p v).launch = s.launch := by cases p <;> rfl

/-! ### `storePlace` -/

@[simp] theorem State.storePlace_a (s : State) (p : Place) (v : Byte) : (s.storePlace p v).a = s.a := by cases p <;> rfl
@[simp] theorem State.storePlace_f (s : State) (p : Place) (v : Byte) : (s.storePlace p v).f = s.f := by cases p <;> rfl
@[simp] theorem State.storePlace_b (s : State) (p : Place) (v : Byte) : (s.storePlace p v).b = s.b := by cases p <;> rfl
@[simp] theorem State.storePlace_c (s : State) (p : Place) (v : Byte) : (s.storePlace p v).c = s.c := by cases p <;> rfl
@[simp] theorem State.storePlace_d (s : State) (p : Place) (v : Byte) : (s.storePlace p v).d = s.d := by cases p <;> rfl
@[simp] theorem State.storePlace_e (s : State) (p : Place) (v : Byte) : (s.storePlace p v).e = s.e := by cases p <;> rfl
@[simp] theorem State.storePlace_h (s : State) (p : Place) (v : Byte) : (s.storePlace p v).h = s.h := by cases p <;> rfl
@[simp] theorem State.storePlace_l (s : State) (p : Place) (v : Byte) : (s.storePlace p v).l = s.l := by cases p <;> rfl
@[simp] theorem State.storePlace_sp (s : State) (p : Place) (v : Byte) : (s.storePlace p v).sp = s.sp := by cases p <;> rfl
@[simp] theorem State.storePlace_pc (s : State) (p : Place) (v : Byte) : (s.storePlace p v).pc = s.pc := by cases p <;> rfl
@[simp] theorem State.storePlace_ime (s : State) (p : Place) (v : Byte) : (s.storePlace p v).ime = s.ime := by cases p <;> rfl
@[simp] theorem State.storePlace_fault (s : State) (p : Place) (v : Byte) : (s.storePlace p v).fault = s.fault := by cases p <;> rfl
@[simp] theorem State.storePlace_cycles (s : State) (p : Place) (v : Byte) : (s.storePlace p v).cycles = s.cycles := by cases p <;> rfl
@[simp] theorem State.storePlace_launch (s : State) (p : Place) (v : Byte) : (s.storePlace p v).launch = s.launch := by cases p <;> rfl

/-! ### `store` -/

@[simp] theorem State.store_a (s : State) (a : Word) (v : Byte) : (s.store a v).a = s.a := by unfold State.store; simp
@[simp] theorem State.store_f (s : State) (a : Word) (v : Byte) : (s.store a v).f = s.f := by unfold State.store; simp
@[simp] theorem State.store_b (s : State) (a : Word) (v : Byte) : (s.store a v).b = s.b := by unfold State.store; simp
@[simp] theorem State.store_c (s : State) (a : Word) (v : Byte) : (s.store a v).c = s.c := by unfold State.store; simp
@[simp] theorem State.store_d (s : State) (a : Word) (v : Byte) : (s.store a v).d = s.d := by unfold State.store; simp
@[simp] theorem State.store_e (s : State) (a : Word) (v : Byte) : (s.store a v).e = s.e := by unfold State.store; simp
@[simp] theorem State.store_h (s : State) (a : Word) (v : Byte) : (s.store a v).h = s.h := by unfold State.store; simp
@[simp] theorem State.store_l (s : State) (a : Word) (v : Byte) : (s.store a v).l = s.l := by unfold State.store; simp
@[simp] theorem State.store_sp (s : State) (a : Word) (v : Byte) : (s.store a v).sp = s.sp := by unfold State.store; simp
@[simp] theorem State.store_pc (s : State) (a : Word) (v : Byte) : (s.store a v).pc = s.pc := by unfold State.store; simp
@[simp] theorem State.store_ime (s : State) (a : Word) (v : Byte) : (s.store a v).ime = s.ime := by unfold State.store; simp
@[simp] theorem State.store_fault (s : State) (a : Word) (v : Byte) : (s.store a v).fault = s.fault := by unfold State.store; simp
@[simp] theorem State.store_cycles (s : State) (a : Word) (v : Byte) : (s.store a v).cycles = s.cycles := by unfold State.store; simp
@[simp] theorem State.store_launch (s : State) (a : Word) (v : Byte) : (s.store a v).launch = s.launch := by unfold State.store; simp

end Sys2Proof.Machine
end

