-- ==== Sys2Proof/Laws/Ops.lean ====
section
/-! SUPPORT. What each shared operation can do, once: sequencing, the address decode, the byte write, the word write and the
stack primitive. -/

namespace Sys2Proof.Machine

/-! ### Sequencing -/

@[simp] theorem andThen_next (s : State) (k : State → Res) : andThen (.next s) k = k s := rfl
@[simp] theorem andThen_fault (w : Fault) (k : State → Res) : andThen (.fault w) k = .fault w := rfl
@[simp] theorem andThen_refused (w : Refusal) (k : State → Res) : andThen (.refused w) k = .refused w := rfl

theorem andThen_eq_next {r : Res} {k : State → Res} {t : State} :
    andThen r k = .next t ↔ ∃ s, r = .next s ∧ k s = .next t := by
  cases r <;> simp

theorem andThen_eq_fault {r : Res} {k : State → Res} {w : Fault} :
    andThen r k = .fault w ↔ r = .fault w ∨ ∃ s, r = .next s ∧ k s = .fault w := by
  cases r <;> simp

theorem andThen_ne_refused {r : Res} {k : State → Res} (hr : ∀ w, r ≠ .refused w) (hk : ∀ s w, k s ≠ .refused w) (w : Refusal) :
    andThen r k ≠ .refused w := by
  cases r with
  | next s => exact hk s w
  | fault x => simp
  | refused x => exact absurd rfl (hr x)

/-! ### Address decode -/

/-- The place of an address, line by line of the address map (20_memory.md R56). -/
theorem placeOf_eq (wramSize : WramSize) (bootDisabled : Bool) (a : Word) :
    placeOf wramSize bootDisabled a =
      if a.toNat ≤ 0x00FF ∧ bootDisabled = false then .boot a.toNat
      else if a.toNat ≤ 0x7FFF then .rom a.toNat
      else if a.toNat ≤ 0x9FFF then .vram (a.toNat - 0x8000)
      else if a.toNat ≤ 0xBFFF then .xram
      else if a.toNat ≤ 0xDFFF then .wram ((a.toNat - 0xC000) % wramSize.bytes)
      else if a.toNat ≤ 0xFDFF then .wram ((a.toNat - 0xE000) % wramSize.bytes)
      else if a.toNat ≤ 0xFE9F then .oam (a.toNat - 0xFE00)
      else if a.toNat ≤ 0xFEFF then .unused
      else if a.toNat ≤ 0xFF7F then .io (a.toNat - 0xFF00)
      else if a.toNat ≤ 0xFFFE then .hram (a.toNat - 0xFF80)
      else .ie := by
  unfold placeOf region
  by_cases h0 : a.toNat ≤ 0x00FF ∧ bootDisabled = false
  · rw [if_pos h0, if_pos h0]
  rw [if_neg h0, if_neg h0]
  by_cases h1 : a.toNat ≤ 0x7FFF
  · rw [if_pos h1, if_pos h1]
  rw [if_neg h1, if_neg h1]
  by_cases h2 : a.toNat ≤ 0x9FFF
  · rw [if_pos h2, if_pos h2]
  rw [if_neg h2, if_neg h2]
  by_cases h3 : a.toNat ≤ 0xBFFF
  · rw [if_pos h3, if_pos h3]
  rw [if_neg h3, if_neg h3]
  by_cases h4 : a.toNat ≤ 0xDFFF
  · rw [if_pos h4, if_pos h4]
  rw [if_neg h4, if_neg h4]
  by_cases h5 : a.toNat ≤ 0xFDFF
  · rw [if_pos h5, if_pos h5]
  rw [if_neg h5, if_neg h5]
  by_cases h6 : a.toNat ≤ 0xFE9F
  · rw [if_pos h6, if_pos h6]
  rw [if_neg h6, if_neg h6]
  by_cases h7 : a.toNat ≤ 0xFEFF
  · rw [if_pos h7, if_pos h7]
  rw [if_neg h7, if_neg h7]
  by_cases h8 : a.toNat ≤ 0xFF7F
  · rw [if_pos h8, if_pos h8]
  rw [if_neg h8, if_neg h8]
  by_cases h9 : a.toNat ≤ 0xFFFE
  · rw [if_pos h9, if_pos h9]
  rw [if_neg h9, if_neg h9]

/-- The address map as eleven cases (20_memory.md R56). -/
theorem place_cases (s : State) (a : Word) :
    (a.toNat ≤ 0x00FF ∧ s.bootDisabled = false ∧ s.place a = .boot a.toNat) ∨
    ((0x00FF < a.toNat ∨ s.bootDisabled = true) ∧ a.toNat ≤ 0x7FFF ∧ s.place a = .rom a.toNat) ∨
    (0x8000 ≤ a.toNat ∧ a.toNat ≤ 0x9FFF ∧ s.place a = .vram (a.toNat - 0x8000)) ∨
    (0xA000 ≤ a.toNat ∧ a.toNat ≤ 0xBFFF ∧ s.place a = .xram) ∨
    (0xC000 ≤ a.toNat ∧ a.toNat ≤ 0xDFFF ∧ s.place a = .wram ((a.toNat - 0xC000) % s.launch.wramSize.bytes)) ∨
    (0xE000 ≤ a.toNat ∧ a.toNat ≤ 0xFDFF ∧ s.place a = .wram ((a.toNat - 0xE000) % s.launch.wramSize.bytes)) ∨
    (0xFE00 ≤ a.toNat ∧ a.toNat ≤ 0xFE9F ∧ s.place a = .oam (a.toNat - 0xFE00)) ∨
    (0xFEA0 ≤ a.toNat ∧ a.toNat ≤ 0xFEFF ∧ s.place a = .unused) ∨
    (0xFF00 ≤ a.toNat ∧ a.toNat ≤ 0xFF7F ∧ s.place a = .io (a.toNat - 0xFF00)) ∨
    (0xFF80 ≤ a.toNat ∧ a.toNat ≤ 0xFFFE ∧ s.place a = .hram (a.toNat - 0xFF80)) ∨
    (a.toNat = 0xFFFF ∧ s.place a = .ie) := by
  have e : s.place a = _ := placeOf_eq s.launch.wramSize s.bootDisabled a
  have := a.isLt
  by_cases c : a.toNat ≤ 0x00FF ∧ s.bootDisabled = false
  · exact .inl ⟨c.1, c.2, e.trans (if_pos c)⟩
  have c' : 0x00FF < a.toNat ∨ s.bootDisabled = true := by
    by_cases h : a.toNat ≤ 0x00FF
    · exact .inr (by simpa [h] using c)
    · exact .inl (by omega)
  rw [if_neg c] at e
  refine .inr ?_
  by_cases c : a.toNat ≤ 0x7FFF
  · exact .inl ⟨c', c, e.trans (if_pos c)⟩
  rw [if_neg c] at e
  refine .inr ?_
  by_cases d : a.toNat ≤ 0x9FFF
  · exact .inl ⟨by omega, d, e.trans (if_pos d)⟩
  rw [if_neg d] at e
  refine .inr ?_
  clear c
  by_cases c : a.toNat ≤ 0xBFFF
  · exact .inl ⟨by omega, c, e.trans (if_pos c)⟩
  rw [if_neg c] at e
  refine .inr ?_
  clear d
  by_cases d : a.toNat ≤ 0xDFFF
  · exact .inl ⟨by omega, d, e.trans (if_pos d)⟩
  rw [if_neg d] at e
  refine .inr ?_
  clear c
  by_cases c : a.toNat ≤ 0xFDFF
  · exact .inl ⟨by omega, c, e.trans (if_pos c)⟩
  rw [if_neg c] at e
  refine .inr ?_
  clear d
  by_cases d : a.toNat ≤ 0xFE9F
  · exact .inl ⟨by omega, d, e.trans (if_pos d)⟩
  rw [if_neg d] at e
  refine .inr ?_
  clear c
  by_cases c : a.toNat ≤ 0xFEFF
  · exact .inl ⟨by omega, c, e.trans (if_pos c)⟩
  rw [if_neg c] at e
  refine .inr ?_
  clear d
  by_cases d : a.toNat ≤ 0xFF7F
  · exact .inl ⟨by omega, d, e.trans (if_pos d)⟩
  rw [if_neg d] at e
  refine .inr ?_
  clear c
  by_cases c : a.toNat ≤ 0xFFFE
  · exact .inl ⟨by omega, c, e.trans (if_pos c)⟩
  rw [if_neg c] at e
  exact .inr ⟨by omega, e⟩
/-- The one window a write raises in (20_memory.md R53, R62). -/
theorem place_eq_xram_iff (s : State) (a : Word) : s.place a = .xram ↔ 0xA000 ≤ a.toNat ∧ a.toNat ≤ 0xBFFF := by
  rcases place_cases s a with
    ⟨_, _, h⟩ | ⟨_, _, h⟩ | ⟨_, _, h⟩ | ⟨_, _, h⟩ | ⟨_, _, h⟩ | ⟨_, _, h⟩ | ⟨_, _, h⟩ |
    ⟨_, _, h⟩ | ⟨_, _, h⟩ | ⟨_, _, h⟩ | ⟨_, h⟩ <;>
    rw [h] <;> simp <;> omega

theorem wramSize_pos (w : WramSize) : 0 < w.bytes := by cases w <;> decide

/-- The offset of a place lies in its store (00_scope.md R6). -/
def Place.inRange (wramSize : WramSize) : Place → Prop
  | .boot n => n < Config.bootSize
  | .rom n => n < Config.cartSize
  | .vram n => n < Config.vramSize
  | .wram n => n < wramSize.bytes
  | .oam n => n < Config.oamSize
  | .io n => n < Config.ioSize
  | .hram n => n < Config.hramSize
  | .xram => True
  | .unused => True
  | .ie => True

theorem State.place_inRange (s : State) (a : Word) : (s.place a).inRange s.launch.wramSize := by
  have := wramSize_pos s.launch.wramSize
  rcases place_cases s a with
    ⟨_, _, h⟩ | ⟨_, _, h⟩ | ⟨_, _, h⟩ | ⟨_, _, h⟩ | ⟨_, _, h⟩ | ⟨_, _, h⟩ | ⟨_, _, h⟩ |
    ⟨_, _, h⟩ | ⟨_, _, h⟩ | ⟨_, _, h⟩ | ⟨_, h⟩ <;>
    rw [h] <;>
    simp only [Place.inRange, Config.bootSize, Config.cartSize, Config.vramSize, Config.oamSize, Config.ioSize,
      Config.hramSize] <;> first | omega | exact Nat.mod_lt _ this

/-! ### The byte write -/

/-- A byte write raises in the window without a store and is performed everywhere else (20_memory.md R53). -/
theorem write_eq (a : Word) (v : Byte) (s : State) :
    write a v s = if s.place a = .xram then raise (.unimplementedMemoryCapability a v) s else .next (s.store a v) := by
  unfold write State.store
  cases h : s.place a <;> simp

theorem write_of_xram {a : Word} {s : State} (v : Byte) (h : s.place a = .xram) :
    write a v s = .fault (.unimplementedMemoryCapability a v (s.wreck (.unimplementedMemoryCapability a v))) := by
  simp [write_eq, h, raise]

theorem write_of_not_xram {a : Word} {s : State} (v : Byte) (h : s.place a ≠ .xram) : write a v s = .next (s.store a v) := by
  simp [write_eq, h]

theorem write_eq_next {a : Word} {v : Byte} {s t : State} : write a v s = .next t ↔ s.place a ≠ .xram ∧ t = s.store a v := by
  rw [write_eq]
  by_cases h : s.place a = .xram <;> simp [h, raise, eq_comm]

theorem write_eq_fault {a : Word} {v : Byte} {s : State} {w : Fault} :
    write a v s = .fault w ↔
      s.place a = .xram ∧ w = .unimplementedMemoryCapability a v (s.wreck (.unimplementedMemoryCapability a v)) := by
  rw [write_eq]
  by_cases h : s.place a = .xram <;> simp [h, raise, eq_comm]

theorem write_ne_refused (a : Word) (v : Byte) (s : State) (w : Refusal) : write a v s ≠ .refused w := by
  rw [write_eq]
  split_ifs <;> simp [raise]

theorem raise_ne_next (r : FaultReport) (s t : State) : raise r s ≠ .next t := by cases r <;> simp [raise]
theorem raise_ne_refused (r : FaultReport) (s : State) (w : Refusal) : raise r s ≠ .refused w := by cases r <;> simp [raise]

/-- The window a write raises in does not move. -/
theorem store_place_xram (s : State) (a b : Word) (v : Byte) : (s.store a v).place b = .xram ↔ s.place b = .xram := by
  rw [place_eq_xram_iff, place_eq_xram_iff]

/-! ### The word write and the stack -/

/-- `write_word` completes exactly where neither byte lies in the window without a store (20_memory.md R55). -/
theorem writeWord_eq_next {a v : Word} {s t : State} :
    writeWord a v s = .next t ↔
      s.place (a + 1) ≠ .xram ∧ s.place a ≠ .xram ∧ t = (s.store (a + 1) (hi v)).store a (lo v) := by
  unfold writeWord
  rw [andThen_eq_next]
  constructor
  · rintro ⟨u, hu, ht⟩
    obtain ⟨h1, rfl⟩ := write_eq_next.mp hu
    obtain ⟨h2, rfl⟩ := write_eq_next.mp ht
    exact ⟨h1, fun h => h2 ((store_place_xram ..).mpr h), rfl⟩
  · rintro ⟨h1, h2, rfl⟩
    exact ⟨_, write_of_not_xram _ h1, write_of_not_xram _ fun h => h2 ((store_place_xram ..).mp h)⟩

/-- The state `Push16` leaves where both writes are performed (41_load16_stack.md R173). -/
def State.pushed (s : State) (v : Word) : State :=
  { (s.store (s.sp - 1) (hi v)).store (s.sp - 2) (lo v) with sp := s.sp - 2 }

theorem push16_eq_next {v : Word} {s t : State} :
    push16 v s = .next t ↔ s.place (s.sp - 1) ≠ .xram ∧ s.place (s.sp - 2) ≠ .xram ∧ t = s.pushed v := by
  unfold push16 State.pushed
  simp only [andThen_eq_next, write_eq_next]
  constructor
  · rintro ⟨u, ⟨h1, rfl⟩, w, ⟨h2, rfl⟩, h3⟩
    simp only [State.store_sp, Host.Outcome.next.injEq] at h2 h3 ⊢
    exact ⟨h1, fun h => h2 ((store_place_xram ..).mpr h), h3.symm⟩
  · rintro ⟨h1, h2, rfl⟩
    refine ⟨_, ⟨h1, rfl⟩, _, ⟨?_, rfl⟩, by simp⟩
    simpa only [State.store_sp] using fun h => h2 ((store_place_xram ..).mp h)

theorem push16_of_not_xram {s : State} (v : Word) (h1 : s.place (s.sp - 1) ≠ .xram) (h2 : s.place (s.sp - 2) ≠ .xram) :
    push16 v s = .next (s.pushed v) := push16_eq_next.mpr ⟨h1, h2, rfl⟩

end Sys2Proof.Machine
end

