-- ==== Sys2Proof/Laws/Place.lean ====
section
/-! SUPPORT. What a byte store changes, place by place and address by address, and that it keeps the invariant. -/

namespace Sys2Proof.Machine

/-! ### The invariant, part by part -/

theorem State.storesWf_iff (s : State) :
    s.storesWf = true ↔
      (s.vram.wf = true ∧ s.vram.below Config.vramSize = true) ∧ (s.oam.wf = true ∧ s.oam.below Config.oamSize = true) ∧
      (s.wram.wf = true ∧ s.wram.below s.launch.wramSize.bytes = true) ∧
      (s.io.wf = true ∧ s.io.below Config.ioSize = true) ∧ (s.hram.wf = true ∧ s.hram.below Config.hramSize = true) ∧
      (s.launch.bootRom.wf = true ∧ s.launch.bootRom.below Config.bootSize = true) ∧
      (s.launch.cartRom.wf = true ∧ s.launch.cartRom.below Config.cartSize = true) := by
  simp only [State.storesWf, Bool.and_eq_true]
  tauto

theorem State.overlayConsistent_iff (s : State) :
    s.overlayConsistent = true ↔ (s.io.get Config.overlayOffset ≠ 0 → s.bootDisabled = true) := by
  simp only [State.overlayConsistent, Bool.or_eq_true, beq_iff_eq]
  tauto

/-! ### One place -/

/-- A place that holds a byte a store can change. -/
def Place.stores : Place → Bool
  | .vram _ | .wram _ | .oam _ | .io _ | .hram _ | .ie => true
  | .boot _ | .rom _ | .xram | .unused => false

/-- A store changes the byte at its place and at no other. -/
theorem readPlace_storePlace {s : State} (h : s.storesWf = true) (p q : Place) (v : Byte) :
    (s.storePlace p v).readPlace q = if q = p ∧ p.stores = true then v else s.readPlace q := by
  obtain ⟨⟨h1, -⟩, ⟨h2, -⟩, ⟨h3, -⟩, ⟨h4, -⟩, ⟨h5, -⟩, -⟩ := (State.storesWf_iff s).mp h
  cases p <;> cases q <;>
    simp [State.storePlace, State.readPlace, Place.stores, Memory.get_set h1, Memory.get_set h2, Memory.get_set h3,
      Memory.get_set h4, Memory.get_set h5]

theorem storesWf_storePlace {s : State} (h : s.storesWf = true) {p : Place} (hp : p.inRange s.launch.wramSize) (v : Byte) :
    (s.storePlace p v).storesWf = true := by
  rw [State.storesWf_iff] at h ⊢
  obtain ⟨h1, h2, h3, h4, h5, h6, h7⟩ := h
  cases p <;> simp only [State.storePlace, Place.inRange] at hp ⊢
  case vram => exact ⟨⟨Memory.wf_set h1.1 .., Memory.below_set h1.2 hp ..⟩, h2, h3, h4, h5, h6, h7⟩
  case wram => exact ⟨h1, h2, ⟨Memory.wf_set h3.1 .., Memory.below_set h3.2 hp ..⟩, h4, h5, h6, h7⟩
  case oam => exact ⟨h1, ⟨Memory.wf_set h2.1 .., Memory.below_set h2.2 hp ..⟩, h3, h4, h5, h6, h7⟩
  case io => exact ⟨h1, h2, h3, ⟨Memory.wf_set h4.1 .., Memory.below_set h4.2 hp ..⟩, h5, h6, h7⟩
  case hram => exact ⟨h1, h2, h3, h4, ⟨Memory.wf_set h5.1 .., Memory.below_set h5.2 hp ..⟩, h6, h7⟩
  all_goals exact ⟨h1, h2, h3, h4, h5, h6, h7⟩

theorem overlayConsistent_storePlace {s : State} (hw : s.storesWf = true) (h : s.overlayConsistent = true) (p : Place) (v : Byte) :
    (s.storePlace p v).overlayConsistent = true := by
  obtain ⟨-, -, -, ⟨h4, -⟩, -⟩ := (State.storesWf_iff s).mp hw
  rw [State.overlayConsistent_iff] at h ⊢
  cases p <;> simp only [State.storePlace] <;> try exact h
  case io n =>
    rw [Memory.get_set h4]
    intro hv
    by_cases hn : Config.overlayOffset = n
    · simp only [hn, if_true] at hv
      simpa [hn] using Or.inr hv
    · simp only [hn, if_false] at hv
      simp [h hv]

/-- The latch after a store: set by a nonzero byte at I/O offset 0x50, cleared by none (20_memory.md R68). -/
theorem bootDisabled_storePlace (s : State) (p : Place) (v : Byte) :
    (s.storePlace p v).bootDisabled = (s.bootDisabled || (p == .io Config.overlayOffset && v != 0)) := by
  cases p <;> simp [State.storePlace]
  case io n => simp [BEq.beq]

/-! ### One address -/

/-- A store keeps the invariant. -/
theorem inv_store {s : State} (h : s.Inv) (a : Word) (v : Byte) : (s.store a v).Inv :=
  ⟨storesWf_storePlace h.1 (s.place_inRange a) v, overlayConsistent_storePlace h.1 h.2 _ v⟩

/-- A store never clears the latch. -/
theorem bootDisabled_store_of_set {s : State} (h : s.bootDisabled = true) (a : Word) (v : Byte) :
    (s.store a v).bootDisabled = true := by
  simp [State.store, bootDisabled_storePlace, h]

/-- Past the overlay window the place of an address does not depend on the latch (20_memory.md R56). -/
theorem placeOf_latch (wramSize : WramSize) (x y : Bool) {a : Word} (h : 0x00FF < a.toNat ∨ x = y) :
    placeOf wramSize x a = placeOf wramSize y a := by
  rcases h with h | rfl
  · have n : ∀ z : Bool, ¬ (a.toNat ≤ 0x00FF ∧ z = false) := by omega
    simp only [placeOf_eq, n, if_false]
  · rfl

/-- A store moves no address outside the overlay window to another place. -/
theorem place_store (s : State) (a b : Word) (v : Byte) (h : 0x00FF < b.toNat ∨ (s.store a v).bootDisabled = s.bootDisabled) :
    (s.store a v).place b = s.place b := by
  unfold State.place
  rw [State.store_launch]
  exact placeOf_latch _ _ _ h

/-- What an address reads as after a store. -/
theorem read_store {s : State} (hw : s.storesWf = true) (a b : Word) (v : Byte)
    (h : 0x00FF < b.toNat ∨ (s.store a v).bootDisabled = s.bootDisabled) :
    (s.store a v).read b = if s.place b = s.place a ∧ (s.place a).stores = true then v else s.read b := by
  unfold State.read
  rw [place_store s a b v h]
  exact readPlace_storePlace hw _ _ v

/-! ### Which addresses have which place -/

/-- The index of a work-RAM address, echo included, is its distance from 0xC000 reduced by `WRAM_SIZE` (R63, R64). -/
theorem place_eq_wram_iff (s : State) (a : Word) (n : Nat) :
    s.place a = .wram n ↔ 0xC000 ≤ a.toNat ∧ a.toNat ≤ 0xFDFF ∧ n = (a.toNat - 0xC000) % s.launch.wramSize.bytes := by
  have e : 0xE000 ≤ a.toNat →
      (a.toNat - 0xE000) % s.launch.wramSize.bytes = (a.toNat - 0xC000) % s.launch.wramSize.bytes := by
    intro h
    have h2 : a.toNat - 0xC000 = a.toNat - 0xE000 + 0x2000 := by omega
    rw [h2]
    cases s.launch.wramSize <;> simp only [WramSize.bytes] <;> omega
  rcases place_cases s a with
    ⟨_, _, h⟩ | ⟨_, _, h⟩ | ⟨_, _, h⟩ | ⟨_, _, h⟩ | ⟨_, _, h⟩ | ⟨_, _, h⟩ | ⟨_, _, h⟩ |
    ⟨_, _, h⟩ | ⟨_, _, h⟩ | ⟨_, _, h⟩ | ⟨_, h⟩ <;>
    rw [h] <;> simp only [Place.wram.injEq, reduceCtorEq, false_iff, not_and] <;> omega

theorem place_eq_vram_iff (s : State) (a : Word) (n : Nat) :
    s.place a = .vram n ↔ 0x8000 ≤ a.toNat ∧ a.toNat ≤ 0x9FFF ∧ n = a.toNat - 0x8000 := by
  rcases place_cases s a with
    ⟨_, _, h⟩ | ⟨_, _, h⟩ | ⟨_, _, h⟩ | ⟨_, _, h⟩ | ⟨_, _, h⟩ | ⟨_, _, h⟩ | ⟨_, _, h⟩ |
    ⟨_, _, h⟩ | ⟨_, _, h⟩ | ⟨_, _, h⟩ | ⟨_, h⟩ <;>
    rw [h] <;> simp <;> omega

theorem place_eq_oam_iff (s : State) (a : Word) (n : Nat) :
    s.place a = .oam n ↔ 0xFE00 ≤ a.toNat ∧ a.toNat ≤ 0xFE9F ∧ n = a.toNat - 0xFE00 := by
  rcases place_cases s a with
    ⟨_, _, h⟩ | ⟨_, _, h⟩ | ⟨_, _, h⟩ | ⟨_, _, h⟩ | ⟨_, _, h⟩ | ⟨_, _, h⟩ | ⟨_, _, h⟩ |
    ⟨_, _, h⟩ | ⟨_, _, h⟩ | ⟨_, _, h⟩ | ⟨_, h⟩ <;>
    rw [h] <;> simp <;> omega

theorem place_eq_io_iff (s : State) (a : Word) (n : Nat) :
    s.place a = .io n ↔ 0xFF00 ≤ a.toNat ∧ a.toNat ≤ 0xFF7F ∧ n = a.toNat - 0xFF00 := by
  rcases place_cases s a with
    ⟨_, _, h⟩ | ⟨_, _, h⟩ | ⟨_, _, h⟩ | ⟨_, _, h⟩ | ⟨_, _, h⟩ | ⟨_, _, h⟩ | ⟨_, _, h⟩ |
    ⟨_, _, h⟩ | ⟨_, _, h⟩ | ⟨_, _, h⟩ | ⟨_, h⟩ <;>
    rw [h] <;> simp <;> omega

theorem place_eq_hram_iff (s : State) (a : Word) (n : Nat) :
    s.place a = .hram n ↔ 0xFF80 ≤ a.toNat ∧ a.toNat ≤ 0xFFFE ∧ n = a.toNat - 0xFF80 := by
  rcases place_cases s a with
    ⟨_, _, h⟩ | ⟨_, _, h⟩ | ⟨_, _, h⟩ | ⟨_, _, h⟩ | ⟨_, _, h⟩ | ⟨_, _, h⟩ | ⟨_, _, h⟩ |
    ⟨_, _, h⟩ | ⟨_, _, h⟩ | ⟨_, _, h⟩ | ⟨_, h⟩ <;>
    rw [h] <;> simp <;> omega

theorem place_eq_ie_iff (s : State) (a : Word) : s.place a = .ie ↔ a.toNat = 0xFFFF := by
  rcases place_cases s a with
    ⟨_, _, h⟩ | ⟨_, _, h⟩ | ⟨_, _, h⟩ | ⟨_, _, h⟩ | ⟨_, _, h⟩ | ⟨_, _, h⟩ | ⟨_, _, h⟩ |
    ⟨_, _, h⟩ | ⟨_, _, h⟩ | ⟨_, _, h⟩ | ⟨_, h⟩ <;>
    rw [h] <;> simp <;> omega

/-- Two addresses with one writable place. -/
theorem eq_or_wram_of_place_eq {s : State} {a b : Word} (h : s.place a = s.place b) (hb : (s.place b).stores = true) :
    a = b ∨ (0xC000 ≤ a.toNat ∧ a.toNat ≤ 0xFDFF ∧ 0xC000 ≤ b.toNat ∧ b.toNat ≤ 0xFDFF ∧
      (a.toNat - 0xC000) % s.launch.wramSize.bytes = (b.toNat - 0xC000) % s.launch.wramSize.bytes) := by
  have eq {x y : Word} (h : x.toNat = y.toNat) : x = y := BitVec.eq_of_toNat_eq h
  cases hp : s.place b with
  | vram n =>
    obtain ⟨a1, a2, a3⟩ := (place_eq_vram_iff s a n).mp (h.trans hp)
    obtain ⟨b1, b2, b3⟩ := (place_eq_vram_iff s b n).mp hp
    exact .inl (eq (by omega))
  | oam n =>
    obtain ⟨a1, a2, a3⟩ := (place_eq_oam_iff s a n).mp (h.trans hp)
    obtain ⟨b1, b2, b3⟩ := (place_eq_oam_iff s b n).mp hp
    exact .inl (eq (by omega))
  | io n =>
    obtain ⟨a1, a2, a3⟩ := (place_eq_io_iff s a n).mp (h.trans hp)
    obtain ⟨b1, b2, b3⟩ := (place_eq_io_iff s b n).mp hp
    exact .inl (eq (by omega))
  | hram n =>
    obtain ⟨a1, a2, a3⟩ := (place_eq_hram_iff s a n).mp (h.trans hp)
    obtain ⟨b1, b2, b3⟩ := (place_eq_hram_iff s b n).mp hp
    exact .inl (eq (by omega))
  | ie =>
    have a1 := (place_eq_ie_iff s a).mp (h.trans hp)
    have b1 := (place_eq_ie_iff s b).mp hp
    exact .inl (eq (by omega))
  | wram n =>
    obtain ⟨a1, a2, a3⟩ := (place_eq_wram_iff s a n).mp (h.trans hp)
    obtain ⟨b1, b2, b3⟩ := (place_eq_wram_iff s b n).mp hp
    exact .inr ⟨a1, a2, b1, b2, a3.symm.trans b3⟩
  | _ => rw [hp] at hb; cases hb

/-- An address that decodes to a writable store (20_memory.md R56). -/
theorem place_stores_iff (s : State) (a : Word) :
    (s.place a).stores = true ↔
      0x8000 ≤ a.toNat ∧ ¬ (0xA000 ≤ a.toNat ∧ a.toNat ≤ 0xBFFF) ∧ ¬ (0xFEA0 ≤ a.toNat ∧ a.toNat ≤ 0xFEFF) := by
  rcases place_cases s a with
    ⟨_, _, h⟩ | ⟨_, _, h⟩ | ⟨_, _, h⟩ | ⟨_, _, h⟩ | ⟨_, _, h⟩ | ⟨_, _, h⟩ | ⟨_, _, h⟩ |
    ⟨_, _, h⟩ | ⟨_, _, h⟩ | ⟨_, _, h⟩ | ⟨_, h⟩ <;>
    rw [h] <;> simp [Place.stores] <;> omega

end Sys2Proof.Machine
end

