-- ==== Sys2Proof/Laws/Effect.lean ====
section
/-! SUPPORT. What any instruction can do, said once: it raises `UnimplementedOpcode` on the state as it stands, or it makes its
byte stores in order and changes registers, `ime`, `PC` and the count besides. -/

namespace Sys2Proof.Machine

/-- `t` is `s` but for registers, `ime`, `PC` and the count. -/
def State.sameStores (s t : State) : Prop :=
  t.vram = s.vram ∧ t.oam = s.oam ∧ t.wram = s.wram ∧ t.io = s.io ∧ t.hram = s.hram ∧ t.ie = s.ie ∧
    t.bootDisabled = s.bootDisabled ∧ t.launch = s.launch ∧ t.fault = s.fault

theorem State.sameStores_refl (s : State) : s.sameStores s := ⟨rfl, rfl, rfl, rfl, rfl, rfl, rfl, rfl, rfl⟩

theorem State.sameStores.trans {s t u : State} (h : s.sameStores t) (k : t.sameStores u) : s.sameStores u := by
  obtain ⟨a1, a2, a3, a4, a5, a6, a7, a8, a9⟩ := h
  obtain ⟨b1, b2, b3, b4, b5, b6, b7, b8, b9⟩ := k
  exact ⟨b1.trans a1, b2.trans a2, b3.trans a3, b4.trans a4, b5.trans a5, b6.trans a6, b7.trans a7, b8.trans a8, b9.trans a9⟩

theorem State.sameStores.place {s t : State} (h : s.sameStores t) (a : Word) : t.place a = s.place a := by
  obtain ⟨-, -, -, -, -, -, h7, h8, -⟩ := h
  unfold State.place
  rw [h7, h8]

theorem State.sameStores.read {s t : State} (h : s.sameStores t) (a : Word) : t.read a = s.read a := by
  unfold State.read
  rw [h.place a]
  obtain ⟨h1, h2, h3, h4, h5, h6, -, h8, -⟩ := h
  unfold State.readPlace
  rw [h1, h2, h3, h4, h5, h6, h8]

theorem State.sameStores.inv {s t : State} (h : s.sameStores t) (hs : s.Inv) : t.Inv := by
  obtain ⟨h1, h2, h3, h4, h5, -, h7, h8, -⟩ := h
  unfold State.Inv State.storesWf State.overlayConsistent at hs ⊢
  rw [h1, h2, h3, h4, h5, h7, h8]
  exact hs

theorem State.sameStores.store {s t : State} (h : s.sameStores t) (a : Word) (v : Byte) :
    (s.store a v).sameStores (t.store a v) := by
  unfold State.store
  rw [h.place a]
  obtain ⟨h1, h2, h3, h4, h5, h6, h7, h8, h9⟩ := h
  cases s.place a <;> simp only [State.storePlace, State.sameStores, h1, h2, h3, h4, h5, h6, h7, h8, h9, and_self]

/-- The counts an instruction can cost. -/
def counts : List Byte := [4, 8, 12, 16, 20, 24]

/-- `r` is what making the stores `ws` in order leaves: a raise at the first whose address has no store, at most `F` changed before
it, else a next state that differs from the stores made in registers, `ime`, `PC` and the count alone. -/
def Stores : List (Word × Byte) → State → Res → Prop
  | [], s, r => ∃ t, r = .next t ∧ s.sameStores t ∧ ∃ n ∈ counts, t.cycles = some n
  | (a, v) :: rest, s, r =>
    (s.place a = .xram ∧ ∃ g : Byte, r = raise (.unimplementedMemoryCapability a v) { s with f := g }) ∨
    (s.place a ≠ .xram ∧ Stores rest (s.store a v) r)

/-- What follows the last store. -/
def Ends (k : State → Res) : Prop := ∀ t, ∃ u, k t = .next u ∧ t.sameStores u ∧ ∃ n ∈ counts, u.cycles = some n

theorem store_with_f (s : State) (a : Word) (v g : Byte) : ({ s with f := g } : State).store a v = { s.store a v with f := g } := by
  unfold State.store State.place
  simp only
  cases placeOf s.launch.wramSize s.bootDisabled a <;> rfl

theorem Stores.one {a : Word} {v : Byte} {s : State} (g : Byte) {k : State → Res} (hk : Ends k) :
    Stores [(a, v)] s (andThen (write a v { s with f := g }) k) := by
  by_cases h : s.place a = .xram
  · exact .inl ⟨h, g, by rw [write_of_xram v (s := { s with f := g }) h]; rfl⟩
  · refine .inr ⟨h, ?_⟩
    obtain ⟨u, hu, hs, hn⟩ := hk { s.store a v with f := g }
    refine ⟨u, ?_, hs, hn⟩
    rw [write_of_not_xram v (s := { s with f := g }) h, andThen_next, store_with_f]
    exact hu

theorem Stores.two {a b : Word} {v w : Byte} {s : State} {k : State → Res} (hk : Ends k) :
    Stores [(a, v), (b, w)] s (andThen (andThen (write a v s) fun t => write b w t) k) := by
  by_cases h : s.place a = .xram
  · exact .inl ⟨h, s.f, by rw [write_of_xram v h]; rfl⟩
  · refine .inr ⟨h, ?_⟩
    rw [write_of_not_xram v h, andThen_next]
    exact Stores.one (s := s.store a v) (s.store a v).f hk

theorem Stores.push {v : Word} {s : State} {k : State → Res} (hk : Ends k) :
    Stores [(s.sp - 1, hi v), (s.sp - 2, lo v)] s (andThen (push16 v s) k) := by
  have e : andThen (push16 v s) k =
      andThen (andThen (write (s.sp - 1) (hi v) s) fun t => write (s.sp - 2) (lo v) t)
        fun u => k { u with sp := u.sp - 2 } := by
    unfold push16
    by_cases h : s.place (s.sp - 1) = .xram
    · rw [write_of_xram _ h]; rfl
    · rw [write_of_not_xram _ h]
      simp only [andThen_next, State.store_sp]
      cases write (s.sp - 2) (lo v) (s.store (s.sp - 1) (hi v)) <;> rfl
  rw [e]
  exact Stores.two fun t => hk { t with sp := t.sp - 2 }

/-- What an instruction can do: raise on the state as it stands, with its one byte, or make its stores. -/
def Effect (i : Instr) (s : State) : Prop :=
  (∃ op, encode i = [op] ∧ exec i s = raise (.unimplementedOpcode op s.pc) s) ∨
    ∃ ws, Stores ws s (exec i s) ∧ ws.map Prod.fst = storesTo i s

/-- A meaning that makes the stores `ws`. -/
theorem Effect.of {i : Instr} {s : State} {ws : List (Word × Byte)} (h : Stores ws s (exec i s))
    (hw : ws.map Prod.fst = storesTo i s) : Effect i s := .inr ⟨ws, h, hw⟩

/-- A meaning that stores nothing. -/
theorem Effect.quiet {i : Instr} {s t : State} (n : Byte) (hw : storesTo i s = []) (h : exec i s = .next t) (hs : s.sameStores t)
    (hc : t.cycles = some n) (hn : n ∈ counts) : Effect i s :=
  .inr ⟨[], ⟨t, h, hs, n, hn, hc⟩, hw.symm⟩

/-- A meaning that makes the stores `ws` where a condition holds and none where it does not. -/
theorem Effect.of_ite {i : Instr} {s : State} {b : Bool} {ws : List (Word × Byte)} {r q : Res}
    (h : exec i s = if b then r else q) (hr : Stores ws s r) (hq : Stores [] s q) (hw : (if b then ws.map Prod.fst else []) = storesTo i s) :
    Effect i s := by
  cases b
  · exact .inr ⟨[], h ▸ hq, hw⟩
  · exact .inr ⟨ws, h ▸ hr, hw⟩

theorem Ends.done {len : Word} {n : Byte} (hn : n ∈ counts) {g : State → State} (hg : ∀ t : State, t.sameStores (g t)) :
    Ends fun t => done len n (g t) := fun t => ⟨_, rfl, (hg t).trans ⟨rfl, rfl, rfl, rfl, rfl, rfl, rfl, rfl, rfl⟩, n, hn, rfl⟩

theorem Ends.jump {target : Word} {n : Byte} (hn : n ∈ counts) : Ends fun t => jump target n t :=
  fun _ => ⟨_, rfl, ⟨rfl, rfl, rfl, rfl, rfl, rfl, rfl, rfl, rfl⟩, n, hn, rfl⟩

theorem sameStores_setPair (s : State) (p : Pair) (v : Word) : s.sameStores (s.setPair p v) := by
  cases p <;> exact ⟨rfl, rfl, rfl, rfl, rfl, rfl, rfl, rfl, rfl⟩

theorem sameStores_decimalAdjust (s : State) : s.sameStores ((decimalAdjust s).advance 1 4) := by
  unfold decimalAdjust
  split <;> exact ⟨rfl, rfl, rfl, rfl, rfl, rfl, rfl, rfl, rfl⟩

/-- A next state that differs in registers, `ime`, `PC` and the count alone. -/
theorem Stores.quiet {s t : State} (n : Byte) (hs : s.sameStores t) (hc : t.cycles = some n) (hn : n ∈ counts) :
    Stores [] s (.next t) := ⟨t, rfl, hs, n, hn, hc⟩

theorem Stores.ite_quiet {s : State} {b : Bool} {r q : Res} (hr : Stores [] s r) (hq : Stores [] s q) :
    Stores [] s (if b then r else q) := by
  cases b
  · exact hq
  · exact hr

/-- What any instruction but the bare prefix can do. -/
theorem exec_effect_of_ne (i : Instr) (h : i ≠ .prefixCB) (s : State) : Effect i s := by
  cases i
  case prefixCB => exact absurd rfl h
  case halt | stop | undefinedD3 | undefinedDB | undefinedDD | undefinedE3 | undefinedE4 | undefinedEB | undefinedEC |
      undefinedED | undefinedF4 | undefinedFC | undefinedFD => exact .inl ⟨_, rfl, rfl⟩
  case ldAtHL_B | ldAtHL_C | ldAtHL_D | ldAtHL_E | ldAtHL_H | ldAtHL_L | ldAtHL_A | ldAtHL_n8 | ldAtBC_A | ldAtDE_A | ldA16_A |
      ldhA8_A | ldAtC_A =>
    exact Effect.of (Stores.one s.f (Ends.done (g := id) (by decide) State.sameStores_refl)) rfl
  case ldAtHLInc_A =>
    exact Effect.of (Stores.one s.f (Ends.done (g := fun t => t.setPair .hl (t.hl + 1)) (by decide)
      fun _ => sameStores_setPair ..)) rfl
  case ldAtHLDec_A =>
    exact Effect.of (Stores.one s.f (Ends.done (g := fun t => t.setPair .hl (t.hl - 1)) (by decide)
      fun _ => sameStores_setPair ..)) rfl
  case incAtHL | decAtHL => exact Effect.of (Stores.one _ (Ends.done (g := id) (by decide) State.sameStores_refl)) rfl
  case ldA16_SP => exact Effect.of (Stores.two (Ends.done (g := id) (by decide) State.sameStores_refl)) rfl
  case pushBC | pushDE | pushHL | pushAF =>
    exact Effect.of (Stores.push (Ends.done (g := id) (by decide) State.sameStores_refl)) rfl
  case call | rst00 | rst08 | rst10 | rst18 | rst20 | rst28 | rst30 | rst38 =>
    exact Effect.of (Stores.push (Ends.jump (by decide))) rfl
  case callNZ | callZ | callNC | callC =>
    exact Effect.of_ite rfl (Stores.push (Ends.jump (by decide)))
      (Stores.quiet _ ⟨rfl, rfl, rfl, rfl, rfl, rfl, rfl, rfl, rfl⟩ rfl (by decide)) rfl
  case retNZ | retZ | retNC | retC | jpNZ | jpZ | jpNC | jpC | jrNZ | jrZ | jrNC | jrC =>
    exact Effect.of (Stores.ite_quiet (Stores.quiet _ ⟨rfl, rfl, rfl, rfl, rfl, rfl, rfl, rfl, rfl⟩ rfl (by decide))
      (Stores.quiet _ ⟨rfl, rfl, rfl, rfl, rfl, rfl, rfl, rfl, rfl⟩ rfl (by decide))) rfl
  case rlc x | rrc x | rl x | rr x | sla x | sra x | swap x | srl x =>
    cases x with
    | reg r => cases r <;> exact Effect.quiet _ rfl rfl ⟨rfl, rfl, rfl, rfl, rfl, rfl, rfl, rfl, rfl⟩ rfl (by decide)
    | atHL => exact Effect.of (Stores.one s.f (Ends.done (g := fun t => t.setFlags _ false false _) (by decide)
        fun _ => ⟨rfl, rfl, rfl, rfl, rfl, rfl, rfl, rfl, rfl⟩)) rfl
  case res _ x | set _ x =>
    cases x with
    | reg r => cases r <;> exact Effect.quiet _ rfl rfl ⟨rfl, rfl, rfl, rfl, rfl, rfl, rfl, rfl, rfl⟩ rfl (by decide)
    | atHL => exact Effect.of (Stores.one s.f (Ends.done (g := id) (by decide) State.sameStores_refl)) rfl
  case bit _ x =>
    cases x with
    | reg r => exact Effect.quiet 8 rfl rfl ⟨rfl, rfl, rfl, rfl, rfl, rfl, rfl, rfl, rfl⟩ rfl (by decide)
    | atHL => exact Effect.quiet 12 rfl rfl ⟨rfl, rfl, rfl, rfl, rfl, rfl, rfl, rfl, rfl⟩ rfl (by decide)
  case daa => exact Effect.quiet _ rfl rfl (sameStores_decimalAdjust s) rfl (by decide)
  all_goals exact Effect.quiet _ rfl rfl ⟨rfl, rfl, rfl, rfl, rfl, rfl, rfl, rfl, rfl⟩ rfl (by decide)

/-- The addresses of one instruction's stores: none, one, or two neighbours, the higher first. -/
def StoreShape (addrs : List Word) : Prop := addrs = [] ∨ (∃ a, addrs = [a]) ∨ ∃ a, addrs = [a + 1, a]

theorem StoreShape.nil : StoreShape [] := .inl rfl
theorem StoreShape.one (a : Word) : StoreShape [a] := .inr (.inl ⟨a, rfl⟩)
theorem StoreShape.two (a : Word) : StoreShape [a + 1, a] := .inr (.inr ⟨a, rfl⟩)

theorem StoreShape.push (a : Word) : StoreShape [a - 1, a - 2] := by
  have e : a - 1 = a - 2 + 1 := by
    rw [BitVec.sub_eq_add_neg, BitVec.sub_eq_add_neg, BitVec.add_assoc]
    rfl
  rw [e]
  exact StoreShape.two _

theorem StoreShape.push_ite (a : Word) (b : Bool) : StoreShape (if b then [a - 1, a - 2] else []) := by
  cases b
  · exact StoreShape.nil
  · exact StoreShape.push a

theorem storesTo_shape (i : Instr) (s : State) : StoreShape (storesTo i s) := by
  cases i
  case ldAtHL_B | ldAtHL_C | ldAtHL_D | ldAtHL_E | ldAtHL_H | ldAtHL_L | ldAtHL_A | ldAtHL_n8 | ldAtBC_A | ldAtDE_A | ldA16_A |
      ldhA8_A | ldAtC_A | ldAtHLInc_A | ldAtHLDec_A | incAtHL | decAtHL => exact StoreShape.one _
  case ldA16_SP => exact StoreShape.two _
  case pushBC | pushDE | pushHL | pushAF | call | rst00 | rst08 | rst10 | rst18 | rst20 | rst28 | rst30 | rst38 =>
    exact StoreShape.push _
  case callNZ | callZ | callNC | callC => exact StoreShape.push_ite _ _
  case rlc x | rrc x | rl x | rr x | sla x | sra x | swap x | srl x | res _ x | set _ x =>
    cases x with
    | reg r => exact StoreShape.nil
    | atHL => exact StoreShape.one _
  all_goals exact StoreShape.nil

/-! ### The prefix byte -/

/-- `execSecondary` is `exec` of the instruction the secondary table assigns (30_encoding.md R111). -/
theorem execSecondary_eq (op2 : Byte) (s : State) : execSecondary op2 s = exec (decodeSecondary op2) s := by
  unfold execSecondary decodeSecondary
  generalize r8OfCode (fieldZ op2) = x
  generalize fieldX op2 = fx
  generalize fieldY op2 = fy
  match fx with
  | 0 =>
    match fy with
    | 0 | 1 | 2 | 3 | 4 | 5 | 6 | 7 => rfl
  | 1 | 2 | 3 => rfl

theorem decodeSecondary_ne_prefixCB (op2 : Byte) : decodeSecondary op2 ≠ .prefixCB := by
  revert op2; decide

/-- The bare prefix raises, or is the instruction its second byte selects (46_system.md R305). -/
theorem exec_prefixCB (s : State) :
    exec .prefixCB s =
      if s.launch.admitsSecondary (s.read (s.pc + 1)) then exec (decodeSecondary (s.read (s.pc + 1))) s
      else raise (.unimplementedOpcode (s.read (s.pc + 1)) s.pc) s := by
  show execPrefixCB s = _
  unfold execPrefixCB
  simp only [execSecondary_eq]

/-! ### Every instruction -/

/-- What any instruction can do: a raise on the state as it stands, or its stores at the addresses `storedAt` names. -/
theorem exec_effect (i : Instr) (s : State) :
    (∃ op, exec i s = raise (.unimplementedOpcode op s.pc) s) ∨
      ∃ ws, Stores ws s (exec i s) ∧ ws.map Prod.fst = storedAt i s := by
  unfold storedAt
  by_cases h : i = .prefixCB
  · subst h
    rw [exec_prefixCB, if_pos rfl]
    split
    · rcases exec_effect_of_ne _ (decodeSecondary_ne_prefixCB (s.read (s.pc + 1))) s with ⟨op, -, hop⟩ | hws
      · exact .inl ⟨op, hop⟩
      · exact .inr hws
    · exact .inl ⟨_, rfl⟩
  · rw [if_neg h]
    rcases exec_effect_of_ne i h s with ⟨op, -, hop⟩ | hws
    · exact .inl ⟨op, hop⟩
    · exact .inr hws

/-- What a store keeps and what a change of registers, `ime`, `PC` and the count keeps, the stores `ws` keep. -/
theorem Stores.keeps (P : State → Prop) (hstore : ∀ s a v, P s → P (s.store a v)) (hsame : ∀ s t, P s → s.sameStores t → P t)
    (ws : List (Word × Byte)) {s t : State} (h : Stores ws s (.next t)) (hs : P s) : P t := by
  induction ws generalizing s with
  | nil =>
    obtain ⟨u, hu, hsu, -⟩ := h
    cases hu
    exact hsame s t hs hsu
  | cons w ws ih =>
    rcases h with ⟨-, g, hg⟩ | ⟨-, h⟩
    · exact absurd hg.symm (raise_ne_next _ _ _)
    · exact ih h (hstore _ _ _ hs)

/-- What every store and every change of registers, `ime`, `PC` and the count keeps, every instruction keeps. -/
theorem exec_keeps (P : State → Prop) (hstore : ∀ s a v, P s → P (s.store a v)) (hsame : ∀ s t, P s → s.sameStores t → P t)
    {i : Instr} {s t : State} (h : exec i s = .next t) (hs : P s) : P t := by
  rcases exec_effect i s with ⟨op, hop⟩ | ⟨ws, hws, -⟩
  · exact absurd (hop.symm.trans h) (raise_ne_next _ _ _)
  · exact Stores.keeps P hstore hsame ws (h ▸ hws) hs

end Sys2Proof.Machine
end

