-- ==== Sys2Proof/Laws/Flags.lean ====
section
/-! SUPPORT. What writing flags does to `F`: the four flags as given, bits 3 to 0 as before (10_state.md R26). -/

namespace Sys2Proof.Machine

@[simp] theorem packFlags_z (f : Byte) (z n h c : Bool) : (packFlags f z n h c)[7] = z := by
  unfold packFlags
  generalize f.extractLsb' 0 4 = g
  revert g z n h c
  decide

@[simp] theorem packFlags_n (f : Byte) (z n h c : Bool) : (packFlags f z n h c)[6] = n := by
  unfold packFlags
  generalize f.extractLsb' 0 4 = g
  revert g z n h c
  decide

@[simp] theorem packFlags_h (f : Byte) (z n h c : Bool) : (packFlags f z n h c)[5] = h := by
  unfold packFlags
  generalize f.extractLsb' 0 4 = g
  revert g z n h c
  decide

@[simp] theorem packFlags_c (f : Byte) (z n h c : Bool) : (packFlags f z n h c)[4] = c := by
  unfold packFlags
  generalize f.extractLsb' 0 4 = g
  revert g z n h c
  decide

@[simp] theorem packFlags_low (f : Byte) (z n h c : Bool) : (packFlags f z n h c).extractLsb' 0 4 = f.extractLsb' 0 4 := by
  unfold packFlags
  generalize f.extractLsb' 0 4 = g
  revert g z n h c
  decide

/-- The low four bits as a mask: no flag assignment writes them. -/
theorem packFlags_and (f : Byte) (z n h c : Bool) : packFlags f z n h c &&& 0x0F = f &&& 0x0F := by
  have e : ∀ x : Byte, x &&& 0x0F = (x.extractLsb' 0 4).zeroExtend 8 := by decide
  rw [e, e, packFlags_low]

@[simp] theorem flagZ_setFlags (s : State) (z n h c : Bool) : (s.setFlags z n h c).flagZ = z := packFlags_z ..
@[simp] theorem flagN_setFlags (s : State) (z n h c : Bool) : (s.setFlags z n h c).flagN = n := packFlags_n ..
@[simp] theorem flagH_setFlags (s : State) (z n h c : Bool) : (s.setFlags z n h c).flagH = h := packFlags_h ..
@[simp] theorem flagC_setFlags (s : State) (z n h c : Bool) : (s.setFlags z n h c).flagC = c := packFlags_c ..

end Sys2Proof.Machine
end

