-- ==== Sys2Proof/Laws/Operands.lean ====
section
/-! SUPPORT. Register pairs and operands under the updates that leave them alone, and the two forms of an operand write. -/

namespace Sys2Proof.Machine

@[simp] theorem State.store_af (s : State) (a : Word) (v : Byte) : (s.store a v).af = s.af := by simp [State.af]
@[simp] theorem State.store_bc (s : State) (a : Word) (v : Byte) : (s.store a v).bc = s.bc := by simp [State.bc]
@[simp] theorem State.store_de (s : State) (a : Word) (v : Byte) : (s.store a v).de = s.de := by simp [State.de]
@[simp] theorem State.store_hl (s : State) (a : Word) (v : Byte) : (s.store a v).hl = s.hl := by simp [State.hl]

@[simp] theorem State.setFlags_bc (s : State) (z n h c : Bool) : (s.setFlags z n h c).bc = s.bc := rfl
@[simp] theorem State.setFlags_de (s : State) (z n h c : Bool) : (s.setFlags z n h c).de = s.de := rfl
@[simp] theorem State.setFlags_hl (s : State) (z n h c : Bool) : (s.setFlags z n h c).hl = s.hl := rfl
@[simp] theorem State.setFlags_reg (s : State) (z n h c : Bool) (r : Reg8) : (s.setFlags z n h c).reg r = s.reg r := by
  cases r <;> rfl

@[simp] theorem State.setPair_hl (s : State) (v : Word) : (s.setPair .hl v).hl = v := word_hi_lo v
@[simp] theorem State.setPair_bc (s : State) (v : Word) : (s.setPair .bc v).bc = v := word_hi_lo v
@[simp] theorem State.setPair_de (s : State) (v : Word) : (s.setPair .de v).de = v := word_hi_lo v

theorem writeR8_reg (r : Reg8) (v : Byte) (s : State) : writeR8 (.reg r) v s = .next (s.setReg r v) := rfl
theorem writeR8_atHL (v : Byte) (s : State) : writeR8 .atHL v s = write s.hl v s := rfl

/-- A register read does not see a memory write. -/
@[simp] theorem State.store_reg (s : State) (a : Word) (v : Byte) (r : Reg8) : (s.store a v).reg r = s.reg r := by
  cases r <;> simp [State.reg]

/-- What a condition tests (00_scope.md R15). -/
theorem State.cond_eq (s : State) (cc : Cond) :
    s.cond cc = match cc with | .nz => !s.f.getLsbD 7 | .z => s.f.getLsbD 7 | .nc => !s.f.getLsbD 4 | .c => s.f.getLsbD 4 := by
  cases cc <;> rfl

end Sys2Proof.Machine
end

