-- ==== Sys2Proof/Laws/PerInstr.lean ====
section
/-! SUPPORT. Facts about instructions as syntax, one lemma per constructor. -/

namespace Sys2Proof.Laws

/-- An instruction is as many bytes long as its first byte says (30_encoding.md R100, R112). -/
def Length.Statement (i : Instr) : Prop :=
  i.wellFormed = true → (encode i).length = opcodeLength ((encode i).headD 0)

theorem Length.nop : Length.Statement (.nop) := fun _ => rfl
theorem Length.ldBC_n16 (n16 : Word) : Length.Statement (.ldBC_n16 n16) := fun _ => rfl
theorem Length.ldAtBC_A : Length.Statement (.ldAtBC_A) := fun _ => rfl
theorem Length.incBC : Length.Statement (.incBC) := fun _ => rfl
theorem Length.incB : Length.Statement (.incB) := fun _ => rfl
theorem Length.decB : Length.Statement (.decB) := fun _ => rfl
theorem Length.ldB_n8 (n8 : Byte) : Length.Statement (.ldB_n8 n8) := fun _ => rfl
theorem Length.rlca : Length.Statement (.rlca) := fun _ => rfl
theorem Length.ldA16_SP (a16 : Word) : Length.Statement (.ldA16_SP a16) := fun _ => rfl
theorem Length.addHL_BC : Length.Statement (.addHL_BC) := fun _ => rfl
theorem Length.ldA_AtBC : Length.Statement (.ldA_AtBC) := fun _ => rfl
theorem Length.decBC : Length.Statement (.decBC) := fun _ => rfl
theorem Length.incC : Length.Statement (.incC) := fun _ => rfl
theorem Length.decC : Length.Statement (.decC) := fun _ => rfl
theorem Length.ldC_n8 (n8 : Byte) : Length.Statement (.ldC_n8 n8) := fun _ => rfl
theorem Length.rrca : Length.Statement (.rrca) := fun _ => rfl
theorem Length.stop : Length.Statement (.stop) := fun _ => rfl
theorem Length.ldDE_n16 (n16 : Word) : Length.Statement (.ldDE_n16 n16) := fun _ => rfl
theorem Length.ldAtDE_A : Length.Statement (.ldAtDE_A) := fun _ => rfl
theorem Length.incDE : Length.Statement (.incDE) := fun _ => rfl
theorem Length.incD : Length.Statement (.incD) := fun _ => rfl
theorem Length.decD : Length.Statement (.decD) := fun _ => rfl
theorem Length.ldD_n8 (n8 : Byte) : Length.Statement (.ldD_n8 n8) := fun _ => rfl
theorem Length.rla : Length.Statement (.rla) := fun _ => rfl
theorem Length.jr (e8 : Byte) : Length.Statement (.jr e8) := fun _ => rfl
theorem Length.addHL_DE : Length.Statement (.addHL_DE) := fun _ => rfl
theorem Length.ldA_AtDE : Length.Statement (.ldA_AtDE) := fun _ => rfl
theorem Length.decDE : Length.Statement (.decDE) := fun _ => rfl
theorem Length.incE : Length.Statement (.incE) := fun _ => rfl
theorem Length.decE : Length.Statement (.decE) := fun _ => rfl
theorem Length.ldE_n8 (n8 : Byte) : Length.Statement (.ldE_n8 n8) := fun _ => rfl
theorem Length.rra : Length.Statement (.rra) := fun _ => rfl
theorem Length.jrNZ (e8 : Byte) : Length.Statement (.jrNZ e8) := fun _ => rfl
theorem Length.ldHL_n16 (n16 : Word) : Length.Statement (.ldHL_n16 n16) := fun _ => rfl
theorem Length.ldAtHLInc_A : Length.Statement (.ldAtHLInc_A) := fun _ => rfl
theorem Length.incHL : Length.Statement (.incHL) := fun _ => rfl
theorem Length.incH : Length.Statement (.incH) := fun _ => rfl
theorem Length.decH : Length.Statement (.decH) := fun _ => rfl
theorem Length.ldH_n8 (n8 : Byte) : Length.Statement (.ldH_n8 n8) := fun _ => rfl
theorem Length.daa : Length.Statement (.daa) := fun _ => rfl
theorem Length.jrZ (e8 : Byte) : Length.Statement (.jrZ e8) := fun _ => rfl
theorem Length.addHL_HL : Length.Statement (.addHL_HL) := fun _ => rfl
theorem Length.ldA_AtHLInc : Length.Statement (.ldA_AtHLInc) := fun _ => rfl
theorem Length.decHL : Length.Statement (.decHL) := fun _ => rfl
theorem Length.incL : Length.Statement (.incL) := fun _ => rfl
theorem Length.decL : Length.Statement (.decL) := fun _ => rfl
theorem Length.ldL_n8 (n8 : Byte) : Length.Statement (.ldL_n8 n8) := fun _ => rfl
theorem Length.cpl : Length.Statement (.cpl) := fun _ => rfl
theorem Length.jrNC (e8 : Byte) : Length.Statement (.jrNC e8) := fun _ => rfl
theorem Length.ldSP_n16 (n16 : Word) : Length.Statement (.ldSP_n16 n16) := fun _ => rfl
theorem Length.ldAtHLDec_A : Length.Statement (.ldAtHLDec_A) := fun _ => rfl
theorem Length.incSP : Length.Statement (.incSP) := fun _ => rfl
theorem Length.incAtHL : Length.Statement (.incAtHL) := fun _ => rfl
theorem Length.decAtHL : Length.Statement (.decAtHL) := fun _ => rfl
theorem Length.ldAtHL_n8 (n8 : Byte) : Length.Statement (.ldAtHL_n8 n8) := fun _ => rfl
theorem Length.scf : Length.Statement (.scf) := fun _ => rfl
theorem Length.jrC (e8 : Byte) : Length.Statement (.jrC e8) := fun _ => rfl
theorem Length.addHL_SP : Length.Statement (.addHL_SP) := fun _ => rfl
theorem Length.ldA_AtHLDec : Length.Statement (.ldA_AtHLDec) := fun _ => rfl
theorem Length.decSP : Length.Statement (.decSP) := fun _ => rfl
theorem Length.incA : Length.Statement (.incA) := fun _ => rfl
theorem Length.decA : Length.Statement (.decA) := fun _ => rfl
theorem Length.ldA_n8 (n8 : Byte) : Length.Statement (.ldA_n8 n8) := fun _ => rfl
theorem Length.ccf : Length.Statement (.ccf) := fun _ => rfl
theorem Length.ldB_B : Length.Statement (.ldB_B) := fun _ => rfl
theorem Length.ldB_C : Length.Statement (.ldB_C) := fun _ => rfl
theorem Length.ldB_D : Length.Statement (.ldB_D) := fun _ => rfl
theorem Length.ldB_E : Length.Statement (.ldB_E) := fun _ => rfl
theorem Length.ldB_H : Length.Statement (.ldB_H) := fun _ => rfl
theorem Length.ldB_L : Length.Statement (.ldB_L) := fun _ => rfl
theorem Length.ldB_AtHL : Length.Statement (.ldB_AtHL) := fun _ => rfl
theorem Length.ldB_A : Length.Statement (.ldB_A) := fun _ => rfl
theorem Length.ldC_B : Length.Statement (.ldC_B) := fun _ => rfl
theorem Length.ldC_C : Length.Statement (.ldC_C) := fun _ => rfl
theorem Length.ldC_D : Length.Statement (.ldC_D) := fun _ => rfl
theorem Length.ldC_E : Length.Statement (.ldC_E) := fun _ => rfl
theorem Length.ldC_H : Length.Statement (.ldC_H) := fun _ => rfl
theorem Length.ldC_L : Length.Statement (.ldC_L) := fun _ => rfl
theorem Length.ldC_AtHL : Length.Statement (.ldC_AtHL) := fun _ => rfl
theorem Length.ldC_A : Length.Statement (.ldC_A) := fun _ => rfl
theorem Length.ldD_B : Length.Statement (.ldD_B) := fun _ => rfl
theorem Length.ldD_C : Length.Statement (.ldD_C) := fun _ => rfl
theorem Length.ldD_D : Length.Statement (.ldD_D) := fun _ => rfl
theorem Length.ldD_E : Length.Statement (.ldD_E) := fun _ => rfl
theorem Length.ldD_H : Length.Statement (.ldD_H) := fun _ => rfl
theorem Length.ldD_L : Length.Statement (.ldD_L) := fun _ => rfl
theorem Length.ldD_AtHL : Length.Statement (.ldD_AtHL) := fun _ => rfl
theorem Length.ldD_A : Length.Statement (.ldD_A) := fun _ => rfl
theorem Length.ldE_B : Length.Statement (.ldE_B) := fun _ => rfl
theorem Length.ldE_C : Length.Statement (.ldE_C) := fun _ => rfl
theorem Length.ldE_D : Length.Statement (.ldE_D) := fun _ => rfl
theorem Length.ldE_E : Length.Statement (.ldE_E) := fun _ => rfl
theorem Length.ldE_H : Length.Statement (.ldE_H) := fun _ => rfl
theorem Length.ldE_L : Length.Statement (.ldE_L) := fun _ => rfl
theorem Length.ldE_AtHL : Length.Statement (.ldE_AtHL) := fun _ => rfl
theorem Length.ldE_A : Length.Statement (.ldE_A) := fun _ => rfl
theorem Length.ldH_B : Length.Statement (.ldH_B) := fun _ => rfl
theorem Length.ldH_C : Length.Statement (.ldH_C) := fun _ => rfl
theorem Length.ldH_D : Length.Statement (.ldH_D) := fun _ => rfl
theorem Length.ldH_E : Length.Statement (.ldH_E) := fun _ => rfl
theorem Length.ldH_H : Length.Statement (.ldH_H) := fun _ => rfl
theorem Length.ldH_L : Length.Statement (.ldH_L) := fun _ => rfl
theorem Length.ldH_AtHL : Length.Statement (.ldH_AtHL) := fun _ => rfl
theorem Length.ldH_A : Length.Statement (.ldH_A) := fun _ => rfl
theorem Length.ldL_B : Length.Statement (.ldL_B) := fun _ => rfl
theorem Length.ldL_C : Length.Statement (.ldL_C) := fun _ => rfl
theorem Length.ldL_D : Length.Statement (.ldL_D) := fun _ => rfl
theorem Length.ldL_E : Length.Statement (.ldL_E) := fun _ => rfl
theorem Length.ldL_H : Length.Statement (.ldL_H) := fun _ => rfl
theorem Length.ldL_L : Length.Statement (.ldL_L) := fun _ => rfl
theorem Length.ldL_AtHL : Length.Statement (.ldL_AtHL) := fun _ => rfl
theorem Length.ldL_A : Length.Statement (.ldL_A) := fun _ => rfl
theorem Length.ldAtHL_B : Length.Statement (.ldAtHL_B) := fun _ => rfl
theorem Length.ldAtHL_C : Length.Statement (.ldAtHL_C) := fun _ => rfl
theorem Length.ldAtHL_D : Length.Statement (.ldAtHL_D) := fun _ => rfl
theorem Length.ldAtHL_E : Length.Statement (.ldAtHL_E) := fun _ => rfl
theorem Length.ldAtHL_H : Length.Statement (.ldAtHL_H) := fun _ => rfl
theorem Length.ldAtHL_L : Length.Statement (.ldAtHL_L) := fun _ => rfl
theorem Length.halt : Length.Statement (.halt) := fun _ => rfl
theorem Length.ldAtHL_A : Length.Statement (.ldAtHL_A) := fun _ => rfl
theorem Length.ldA_B : Length.Statement (.ldA_B) := fun _ => rfl
theorem Length.ldA_C : Length.Statement (.ldA_C) := fun _ => rfl
theorem Length.ldA_D : Length.Statement (.ldA_D) := fun _ => rfl
theorem Length.ldA_E : Length.Statement (.ldA_E) := fun _ => rfl
theorem Length.ldA_H : Length.Statement (.ldA_H) := fun _ => rfl
theorem Length.ldA_L : Length.Statement (.ldA_L) := fun _ => rfl
theorem Length.ldA_AtHL : Length.Statement (.ldA_AtHL) := fun _ => rfl
theorem Length.ldA_A : Length.Statement (.ldA_A) := fun _ => rfl
theorem Length.addA_B : Length.Statement (.addA_B) := fun _ => rfl
theorem Length.addA_C : Length.Statement (.addA_C) := fun _ => rfl
theorem Length.addA_D : Length.Statement (.addA_D) := fun _ => rfl
theorem Length.addA_E : Length.Statement (.addA_E) := fun _ => rfl
theorem Length.addA_H : Length.Statement (.addA_H) := fun _ => rfl
theorem Length.addA_L : Length.Statement (.addA_L) := fun _ => rfl
theorem Length.addA_AtHL : Length.Statement (.addA_AtHL) := fun _ => rfl
theorem Length.addA_A : Length.Statement (.addA_A) := fun _ => rfl
theorem Length.adcA_B : Length.Statement (.adcA_B) := fun _ => rfl
theorem Length.adcA_C : Length.Statement (.adcA_C) := fun _ => rfl
theorem Length.adcA_D : Length.Statement (.adcA_D) := fun _ => rfl
theorem Length.adcA_E : Length.Statement (.adcA_E) := fun _ => rfl
theorem Length.adcA_H : Length.Statement (.adcA_H) := fun _ => rfl
theorem Length.adcA_L : Length.Statement (.adcA_L) := fun _ => rfl
theorem Length.adcA_AtHL : Length.Statement (.adcA_AtHL) := fun _ => rfl
theorem Length.adcA_A : Length.Statement (.adcA_A) := fun _ => rfl
theorem Length.subB : Length.Statement (.subB) := fun _ => rfl
theorem Length.subC : Length.Statement (.subC) := fun _ => rfl
theorem Length.subD : Length.Statement (.subD) := fun _ => rfl
theorem Length.subE : Length.Statement (.subE) := fun _ => rfl
theorem Length.subH : Length.Statement (.subH) := fun _ => rfl
theorem Length.subL : Length.Statement (.subL) := fun _ => rfl
theorem Length.subAtHL : Length.Statement (.subAtHL) := fun _ => rfl
theorem Length.subA : Length.Statement (.subA) := fun _ => rfl
theorem Length.sbcA_B : Length.Statement (.sbcA_B) := fun _ => rfl
theorem Length.sbcA_C : Length.Statement (.sbcA_C) := fun _ => rfl
theorem Length.sbcA_D : Length.Statement (.sbcA_D) := fun _ => rfl
theorem Length.sbcA_E : Length.Statement (.sbcA_E) := fun _ => rfl
theorem Length.sbcA_H : Length.Statement (.sbcA_H) := fun _ => rfl
theorem Length.sbcA_L : Length.Statement (.sbcA_L) := fun _ => rfl
theorem Length.sbcA_AtHL : Length.Statement (.sbcA_AtHL) := fun _ => rfl
theorem Length.sbcA_A : Length.Statement (.sbcA_A) := fun _ => rfl
theorem Length.andB : Length.Statement (.andB) := fun _ => rfl
theorem Length.andC : Length.Statement (.andC) := fun _ => rfl
theorem Length.andD : Length.Statement (.andD) := fun _ => rfl
theorem Length.andE : Length.Statement (.andE) := fun _ => rfl
theorem Length.andH : Length.Statement (.andH) := fun _ => rfl
theorem Length.andL : Length.Statement (.andL) := fun _ => rfl
theorem Length.andAtHL : Length.Statement (.andAtHL) := fun _ => rfl
theorem Length.andA : Length.Statement (.andA) := fun _ => rfl
theorem Length.xorB : Length.Statement (.xorB) := fun _ => rfl
theorem Length.xorC : Length.Statement (.xorC) := fun _ => rfl
theorem Length.xorD : Length.Statement (.xorD) := fun _ => rfl
theorem Length.xorE : Length.Statement (.xorE) := fun _ => rfl
theorem Length.xorH : Length.Statement (.xorH) := fun _ => rfl
theorem Length.xorL : Length.Statement (.xorL) := fun _ => rfl
theorem Length.xorAtHL : Length.Statement (.xorAtHL) := fun _ => rfl
theorem Length.xorA : Length.Statement (.xorA) := fun _ => rfl
theorem Length.orB : Length.Statement (.orB) := fun _ => rfl
theorem Length.orC : Length.Statement (.orC) := fun _ => rfl
theorem Length.orD : Length.Statement (.orD) := fun _ => rfl
theorem Length.orE : Length.Statement (.orE) := fun _ => rfl
theorem Length.orH : Length.Statement (.orH) := fun _ => rfl
theorem Length.orL : Length.Statement (.orL) := fun _ => rfl
theorem Length.orAtHL : Length.Statement (.orAtHL) := fun _ => rfl
theorem Length.orA : Length.Statement (.orA) := fun _ => rfl
theorem Length.cpB : Length.Statement (.cpB) := fun _ => rfl
theorem Length.cpC : Length.Statement (.cpC) := fun _ => rfl
theorem Length.cpD : Length.Statement (.cpD) := fun _ => rfl
theorem Length.cpE : Length.Statement (.cpE) := fun _ => rfl
theorem Length.cpH : Length.Statement (.cpH) := fun _ => rfl
theorem Length.cpL : Length.Statement (.cpL) := fun _ => rfl
theorem Length.cpAtHL : Length.Statement (.cpAtHL) := fun _ => rfl
theorem Length.cpA : Length.Statement (.cpA) := fun _ => rfl
theorem Length.retNZ : Length.Statement (.retNZ) := fun _ => rfl
theorem Length.popBC : Length.Statement (.popBC) := fun _ => rfl
theorem Length.jpNZ (a16 : Word) : Length.Statement (.jpNZ a16) := fun _ => rfl
theorem Length.jp (a16 : Word) : Length.Statement (.jp a16) := fun _ => rfl
theorem Length.callNZ (a16 : Word) : Length.Statement (.callNZ a16) := fun _ => rfl
theorem Length.pushBC : Length.Statement (.pushBC) := fun _ => rfl
theorem Length.addA_n8 (n8 : Byte) : Length.Statement (.addA_n8 n8) := fun _ => rfl
theorem Length.rst00 : Length.Statement (.rst00) := fun _ => rfl
theorem Length.retZ : Length.Statement (.retZ) := fun _ => rfl
theorem Length.ret : Length.Statement (.ret) := fun _ => rfl
theorem Length.jpZ (a16 : Word) : Length.Statement (.jpZ a16) := fun _ => rfl
theorem Length.prefixCB : Length.Statement (.prefixCB) := fun h => absurd h (by decide)
theorem Length.callZ (a16 : Word) : Length.Statement (.callZ a16) := fun _ => rfl
theorem Length.call (a16 : Word) : Length.Statement (.call a16) := fun _ => rfl
theorem Length.adcA_n8 (n8 : Byte) : Length.Statement (.adcA_n8 n8) := fun _ => rfl
theorem Length.rst08 : Length.Statement (.rst08) := fun _ => rfl
theorem Length.retNC : Length.Statement (.retNC) := fun _ => rfl
theorem Length.popDE : Length.Statement (.popDE) := fun _ => rfl
theorem Length.jpNC (a16 : Word) : Length.Statement (.jpNC a16) := fun _ => rfl
theorem Length.undefinedD3 : Length.Statement (.undefinedD3) := fun _ => rfl
theorem Length.callNC (a16 : Word) : Length.Statement (.callNC a16) := fun _ => rfl
theorem Length.pushDE : Length.Statement (.pushDE) := fun _ => rfl
theorem Length.sub_n8 (n8 : Byte) : Length.Statement (.sub_n8 n8) := fun _ => rfl
theorem Length.rst10 : Length.Statement (.rst10) := fun _ => rfl
theorem Length.retC : Length.Statement (.retC) := fun _ => rfl
theorem Length.reti : Length.Statement (.reti) := fun _ => rfl
theorem Length.jpC (a16 : Word) : Length.Statement (.jpC a16) := fun _ => rfl
theorem Length.undefinedDB : Length.Statement (.undefinedDB) := fun _ => rfl
theorem Length.callC (a16 : Word) : Length.Statement (.callC a16) := fun _ => rfl
theorem Length.undefinedDD : Length.Statement (.undefinedDD) := fun _ => rfl
theorem Length.sbcA_n8 (n8 : Byte) : Length.Statement (.sbcA_n8 n8) := fun _ => rfl
theorem Length.rst18 : Length.Statement (.rst18) := fun _ => rfl
theorem Length.ldhA8_A (a8 : Byte) : Length.Statement (.ldhA8_A a8) := fun _ => rfl
theorem Length.popHL : Length.Statement (.popHL) := fun _ => rfl
theorem Length.ldAtC_A : Length.Statement (.ldAtC_A) := fun _ => rfl
theorem Length.undefinedE3 : Length.Statement (.undefinedE3) := fun _ => rfl
theorem Length.undefinedE4 : Length.Statement (.undefinedE4) := fun _ => rfl
theorem Length.pushHL : Length.Statement (.pushHL) := fun _ => rfl
theorem Length.and_n8 (n8 : Byte) : Length.Statement (.and_n8 n8) := fun _ => rfl
theorem Length.rst20 : Length.Statement (.rst20) := fun _ => rfl
theorem Length.addSP_e8 (e8 : Byte) : Length.Statement (.addSP_e8 e8) := fun _ => rfl
theorem Length.jpHL : Length.Statement (.jpHL) := fun _ => rfl
theorem Length.ldA16_A (a16 : Word) : Length.Statement (.ldA16_A a16) := fun _ => rfl
theorem Length.undefinedEB : Length.Statement (.undefinedEB) := fun _ => rfl
theorem Length.undefinedEC : Length.Statement (.undefinedEC) := fun _ => rfl
theorem Length.undefinedED : Length.Statement (.undefinedED) := fun _ => rfl
theorem Length.xor_n8 (n8 : Byte) : Length.Statement (.xor_n8 n8) := fun _ => rfl
theorem Length.rst28 : Length.Statement (.rst28) := fun _ => rfl
theorem Length.ldhA_A8 (a8 : Byte) : Length.Statement (.ldhA_A8 a8) := fun _ => rfl
theorem Length.popAF : Length.Statement (.popAF) := fun _ => rfl
theorem Length.ldA_AtC : Length.Statement (.ldA_AtC) := fun _ => rfl
theorem Length.di : Length.Statement (.di) := fun _ => rfl
theorem Length.undefinedF4 : Length.Statement (.undefinedF4) := fun _ => rfl
theorem Length.pushAF : Length.Statement (.pushAF) := fun _ => rfl
theorem Length.or_n8 (n8 : Byte) : Length.Statement (.or_n8 n8) := fun _ => rfl
theorem Length.rst30 : Length.Statement (.rst30) := fun _ => rfl
theorem Length.ldHL_SPe8 (e8 : Byte) : Length.Statement (.ldHL_SPe8 e8) := fun _ => rfl
theorem Length.ldSP_HL : Length.Statement (.ldSP_HL) := fun _ => rfl
theorem Length.ldA_A16 (a16 : Word) : Length.Statement (.ldA_A16 a16) := fun _ => rfl
theorem Length.ei : Length.Statement (.ei) := fun _ => rfl
theorem Length.undefinedFC : Length.Statement (.undefinedFC) := fun _ => rfl
theorem Length.undefinedFD : Length.Statement (.undefinedFD) := fun _ => rfl
theorem Length.cp_n8 (n8 : Byte) : Length.Statement (.cp_n8 n8) := fun _ => rfl
theorem Length.rst38 : Length.Statement (.rst38) := fun _ => rfl
theorem Length.rlc (x : R8) : Length.Statement (.rlc x) := fun _ => rfl
theorem Length.rrc (x : R8) : Length.Statement (.rrc x) := fun _ => rfl
theorem Length.rl (x : R8) : Length.Statement (.rl x) := fun _ => rfl
theorem Length.rr (x : R8) : Length.Statement (.rr x) := fun _ => rfl
theorem Length.sla (x : R8) : Length.Statement (.sla x) := fun _ => rfl
theorem Length.sra (x : R8) : Length.Statement (.sra x) := fun _ => rfl
theorem Length.swap (x : R8) : Length.Statement (.swap x) := fun _ => rfl
theorem Length.srl (x : R8) : Length.Statement (.srl x) := fun _ => rfl
theorem Length.bit (b : Fin 8) (x : R8) : Length.Statement (.bit b x) := fun _ => rfl
theorem Length.res (b : Fin 8) (x : R8) : Length.Statement (.res b x) := fun _ => rfl
theorem Length.set (b : Fin 8) (x : R8) : Length.Statement (.set b x) := fun _ => rfl

end Sys2Proof.Laws
end

