-- ==== Sys2Proof/Laws/Step.lean ====
section
/-! SUPPORT. What one step can do: stop on a fault record, raise on an opcode left out, or execute the instruction at `PC`. -/

namespace Sys2Proof.Machine

theorem step_of_fault {s : State} {r : FaultReport} (h : s.fault = some r) : step s = .fault (.stuck r) := by
  unfold step
  rw [h]

theorem step_of_fetch_ok {s : State} {i : Instr} (h : s.fault = none) (hf : s.fetch = .ok i) : step s = exec i s := by
  unfold step
  rw [h, hf]

theorem step_of_fetch_error {s : State} {op : Byte} (h : s.fault = none) (hf : s.fetch = .error op) :
    step s = raise (.unimplementedOpcode op s.pc) s := by
  unfold step
  rw [h, hf]

/-- An admitted opcode is fetched (46_system.md R307). -/
theorem fetch_of_admitted {s : State} (hp : s.launch.admitsPrimary (s.read s.pc) = true)
    (hs : s.read s.pc = 0xCB → s.launch.admitsSecondary (s.read (s.pc + 1)) = true) : s.fetch = .ok s.instrAt := by
  unfold State.fetch
  simp only [hp]
  rw [if_neg (by simp), if_neg]
  rintro ⟨h, h'⟩
  rw [hs h] at h'
  cases h'

/-- What a fetch answers: an opcode left out, or the instruction at `PC`. -/
theorem fetch_cases (s : State) :
    (s.fetch = .error (s.read s.pc) ∧ s.launch.admitsPrimary (s.read s.pc) = false) ∨
    (s.fetch = .error (s.read (s.pc + 1)) ∧ s.read s.pc = 0xCB ∧ s.launch.admitsSecondary (s.read (s.pc + 1)) = false) ∨
    s.fetch = .ok s.instrAt := by
  by_cases hp : s.launch.admitsPrimary (s.read s.pc) = true
  · by_cases hs : s.read s.pc = 0xCB → s.launch.admitsSecondary (s.read (s.pc + 1)) = true
    · exact .inr (.inr (fetch_of_admitted hp hs))
    · rw [Classical.not_imp, Bool.not_eq_true] at hs
      refine .inr (.inl ⟨?_, hs⟩)
      unfold State.fetch
      simp only [hp]
      rw [if_neg (by simp), if_pos hs]
  · rw [Bool.not_eq_true] at hp
    refine .inl ⟨?_, hp⟩
    unfold State.fetch
    simp only
    rw [if_pos hp]

/-- A completed step executed the instruction at `PC` from a state without a fault. -/
theorem step_eq_next {s t : State} (h : step s = .next t) : s.fault = none ∧ exec s.instrAt s = .next t := by
  cases hf : s.fault with
  | some r => rw [step_of_fault hf] at h; cases h
  | none =>
    refine ⟨rfl, ?_⟩
    rcases fetch_cases s with ⟨he, -⟩ | ⟨he, -⟩ | he
    · rw [step_of_fetch_error hf he] at h
      exact absurd h (raise_ne_next _ _ _)
    · rw [step_of_fetch_error hf he] at h
      exact absurd h (raise_ne_next _ _ _)
    · rw [step_of_fetch_ok hf he] at h
      exact h

end Sys2Proof.Machine
end

