-- ==== Sys2Proof/Laws/Run.lean ====
section
/-! SUPPORT. What a run of several steps is, one step at a time, and that a run that completes has every shorter one complete. -/

namespace Sys2Proof.Machine

@[simp] theorem run_zero (s : State) : Sys2Proof.core.run 0 s = .next s := rfl

/-- A run of one step more is a step, and the run from where it leads. -/
theorem run_succ (n : Nat) (s : State) :
    Sys2Proof.core.run (n + 1) s = andThen (step s) fun t => Sys2Proof.core.run n t := by
  simp only [Host.Core.run]
  cases hs : step s <;> (rw [show Sys2Proof.core.step s = _ from hs]; rfl)

/-- It completes exactly where the step completes and the run from there does. -/
theorem run_succ_eq_next_iff {s t : State} {n : Nat} :
    Sys2Proof.core.run (n + 1) s = .next t ↔ ∃ u, step s = .next u ∧ Sys2Proof.core.run n u = .next t := by
  rw [run_succ]
  exact andThen_eq_next

/-- A run that completes passes through a state after every smaller number of steps. -/
theorem run_next_of_le {n k : Nat} {s t : State} (h : Sys2Proof.core.run n s = .next t) (hk : k ≤ n) :
    ∃ u, Sys2Proof.core.run k s = .next u := by
  induction k generalizing n s with
  | zero => exact ⟨s, rfl⟩
  | succ k ih =>
    cases n with
    | zero => exact absurd hk (Nat.not_succ_le_zero k)
    | succ n =>
      obtain ⟨v, hv, hr⟩ := run_succ_eq_next_iff.mp h
      obtain ⟨u, hu⟩ := ih hr (Nat.le_of_succ_le_succ hk)
      exact ⟨u, run_succ_eq_next_iff.mpr ⟨v, hv, hu⟩⟩

/-- A run that is safe for `n` steps is safe for fewer. -/
theorem SafeFor.mono {n k : Nat} {s : State} (h : SafeFor n s) (hk : k ≤ n) : SafeFor k s := by
  obtain ⟨t, ht⟩ := h
  exact run_next_of_le ht hk

/-- A finished state holds no fault record. -/
theorem State.fault_of_finished {s : State} (h : s.finished = true) : s.fault = none := by
  simp only [State.finished, Bool.and_eq_true, Option.isNone_iff_eq_none] at h
  exact h.1.1

end Sys2Proof.Machine
end

