-- ==== Sys2Proof/Tests/Slice0.lean ====
section
/-! SUPPORT. The model's own tests. The words of the decode tests are those of 30_encoding.md R110 and R111; the expected results
of the step tests are those of 95_test_vectors.md, each named by its vector; the last part shows, for every statement with
hypotheses, values that meet them. -/

namespace Sys2Proof.Tests

open Sys2Proof Sys2Proof.Machine Sys2Proof.Stated

/-! ### Well-formed terms -/

/-- The one ill-formed term: the prefix byte without the byte that selects (46_system.md R305). -/
theorem test_bare_prefix_is_ill_formed : Instr.prefixCB.wellFormed = false := by decide

theorem test_ordinary_terms_are_well_formed :
    Instr.halt.wellFormed = true ∧ (Instr.bit 7 .atHL).wellFormed = true ∧ (Instr.ldA_n8 0xFF).wellFormed = true := by decide

/-! ### Decoding: every row of the opcode table -/

/-- The bytes are one instruction, with nothing behind it. -/
def decodesTo (row : List Byte × Instr) : Bool :=
  match decode row.1 with
  | .ok (i, []) => decide (i = row.2)
  | _ => false

/-- Every row of a table decodes so. -/
def allDecode (rows : List (List Byte × Instr)) : Bool := rows.all decodesTo

/-- Opcodes 0x00 to 0x1F (R110). -/
theorem test_decode_00 :
    allDecode [([0b00000000], .nop), ([0b00000001, 0x34, 0x12], .ldBC_n16 0x1234), ([0b00000010], .ldAtBC_A), ([0b00000011], .incBC),
      ([0b00000100], .incB), ([0b00000101], .decB), ([0b00000110, 0xA5], .ldB_n8 0xA5), ([0b00000111], .rlca)] = true ∧
    allDecode [([0b00001000, 0x34, 0x12], .ldA16_SP 0x1234), ([0b00001001], .addHL_BC), ([0b00001010], .ldA_AtBC), ([0b00001011], .decBC),
      ([0b00001100], .incC), ([0b00001101], .decC), ([0b00001110, 0xA5], .ldC_n8 0xA5), ([0b00001111], .rrca)] = true ∧
    allDecode [([0b00010000], .stop), ([0b00010001, 0x34, 0x12], .ldDE_n16 0x1234), ([0b00010010], .ldAtDE_A), ([0b00010011], .incDE),
      ([0b00010100], .incD), ([0b00010101], .decD), ([0b00010110, 0xA5], .ldD_n8 0xA5), ([0b00010111], .rla)] = true ∧
    allDecode [([0b00011000, 0xA5], .jr 0xA5), ([0b00011001], .addHL_DE), ([0b00011010], .ldA_AtDE), ([0b00011011], .decDE),
      ([0b00011100], .incE), ([0b00011101], .decE), ([0b00011110, 0xA5], .ldE_n8 0xA5), ([0b00011111], .rra)] = true := by decide

/-- Opcodes 0x20 to 0x3F (R110). -/
theorem test_decode_20 :
    allDecode [([0b00100000, 0xA5], .jrNZ 0xA5), ([0b00100001, 0x34, 0x12], .ldHL_n16 0x1234), ([0b00100010], .ldAtHLInc_A), ([0b00100011], .incHL),
      ([0b00100100], .incH), ([0b00100101], .decH), ([0b00100110, 0xA5], .ldH_n8 0xA5), ([0b00100111], .daa)] = true ∧
    allDecode [([0b00101000, 0xA5], .jrZ 0xA5), ([0b00101001], .addHL_HL), ([0b00101010], .ldA_AtHLInc), ([0b00101011], .decHL),
      ([0b00101100], .incL), ([0b00101101], .decL), ([0b00101110, 0xA5], .ldL_n8 0xA5), ([0b00101111], .cpl)] = true ∧
    allDecode [([0b00110000, 0xA5], .jrNC 0xA5), ([0b00110001, 0x34, 0x12], .ldSP_n16 0x1234), ([0b00110010], .ldAtHLDec_A), ([0b00110011], .incSP),
      ([0b00110100], .incAtHL), ([0b00110101], .decAtHL), ([0b00110110, 0xA5], .ldAtHL_n8 0xA5), ([0b00110111], .scf)] = true ∧
    allDecode [([0b00111000, 0xA5], .jrC 0xA5), ([0b00111001], .addHL_SP), ([0b00111010], .ldA_AtHLDec), ([0b00111011], .decSP),
      ([0b00111100], .incA), ([0b00111101], .decA), ([0b00111110, 0xA5], .ldA_n8 0xA5), ([0b00111111], .ccf)] = true := by decide

/-- Opcodes 0x40 to 0x5F (R110). -/
theorem test_decode_40 :
    allDecode [([0b01000000], .ldB_B), ([0b01000001], .ldB_C), ([0b01000010], .ldB_D), ([0b01000011], .ldB_E),
      ([0b01000100], .ldB_H), ([0b01000101], .ldB_L), ([0b01000110], .ldB_AtHL), ([0b01000111], .ldB_A)] = true ∧
    allDecode [([0b01001000], .ldC_B), ([0b01001001], .ldC_C), ([0b01001010], .ldC_D), ([0b01001011], .ldC_E),
      ([0b01001100], .ldC_H), ([0b01001101], .ldC_L), ([0b01001110], .ldC_AtHL), ([0b01001111], .ldC_A)] = true ∧
    allDecode [([0b01010000], .ldD_B), ([0b01010001], .ldD_C), ([0b01010010], .ldD_D), ([0b01010011], .ldD_E),
      ([0b01010100], .ldD_H), ([0b01010101], .ldD_L), ([0b01010110], .ldD_AtHL), ([0b01010111], .ldD_A)] = true ∧
    allDecode [([0b01011000], .ldE_B), ([0b01011001], .ldE_C), ([0b01011010], .ldE_D), ([0b01011011], .ldE_E),
      ([0b01011100], .ldE_H), ([0b01011101], .ldE_L), ([0b01011110], .ldE_AtHL), ([0b01011111], .ldE_A)] = true := by decide

/-- Opcodes 0x60 to 0x7F (R110). -/
theorem test_decode_60 :
    allDecode [([0b01100000], .ldH_B), ([0b01100001], .ldH_C), ([0b01100010], .ldH_D), ([0b01100011], .ldH_E),
      ([0b01100100], .ldH_H), ([0b01100101], .ldH_L), ([0b01100110], .ldH_AtHL), ([0b01100111], .ldH_A)] = true ∧
    allDecode [([0b01101000], .ldL_B), ([0b01101001], .ldL_C), ([0b01101010], .ldL_D), ([0b01101011], .ldL_E),
      ([0b01101100], .ldL_H), ([0b01101101], .ldL_L), ([0b01101110], .ldL_AtHL), ([0b01101111], .ldL_A)] = true ∧
    allDecode [([0b01110000], .ldAtHL_B), ([0b01110001], .ldAtHL_C), ([0b01110010], .ldAtHL_D), ([0b01110011], .ldAtHL_E),
      ([0b01110100], .ldAtHL_H), ([0b01110101], .ldAtHL_L), ([0b01110110], .halt), ([0b01110111], .ldAtHL_A)] = true ∧
    allDecode [([0b01111000], .ldA_B), ([0b01111001], .ldA_C), ([0b01111010], .ldA_D), ([0b01111011], .ldA_E),
      ([0b01111100], .ldA_H), ([0b01111101], .ldA_L), ([0b01111110], .ldA_AtHL), ([0b01111111], .ldA_A)] = true := by decide

/-- Opcodes 0x80 to 0x9F (R110). -/
theorem test_decode_80 :
    allDecode [([0b10000000], .addA_B), ([0b10000001], .addA_C), ([0b10000010], .addA_D), ([0b10000011], .addA_E),
      ([0b10000100], .addA_H), ([0b10000101], .addA_L), ([0b10000110], .addA_AtHL), ([0b10000111], .addA_A)] = true ∧
    allDecode [([0b10001000], .adcA_B), ([0b10001001], .adcA_C), ([0b10001010], .adcA_D), ([0b10001011], .adcA_E),
      ([0b10001100], .adcA_H), ([0b10001101], .adcA_L), ([0b10001110], .adcA_AtHL), ([0b10001111], .adcA_A)] = true ∧
    allDecode [([0b10010000], .subB), ([0b10010001], .subC), ([0b10010010], .subD), ([0b10010011], .subE),
      ([0b10010100], .subH), ([0b10010101], .subL), ([0b10010110], .subAtHL), ([0b10010111], .subA)] = true ∧
    allDecode [([0b10011000], .sbcA_B), ([0b10011001], .sbcA_C), ([0b10011010], .sbcA_D), ([0b10011011], .sbcA_E),
      ([0b10011100], .sbcA_H), ([0b10011101], .sbcA_L), ([0b10011110], .sbcA_AtHL), ([0b10011111], .sbcA_A)] = true := by decide

/-- Opcodes 0xA0 to 0xBF (R110). -/
theorem test_decode_A0 :
    allDecode [([0b10100000], .andB), ([0b10100001], .andC), ([0b10100010], .andD), ([0b10100011], .andE),
      ([0b10100100], .andH), ([0b10100101], .andL), ([0b10100110], .andAtHL), ([0b10100111], .andA)] = true ∧
    allDecode [([0b10101000], .xorB), ([0b10101001], .xorC), ([0b10101010], .xorD), ([0b10101011], .xorE),
      ([0b10101100], .xorH), ([0b10101101], .xorL), ([0b10101110], .xorAtHL), ([0b10101111], .xorA)] = true ∧
    allDecode [([0b10110000], .orB), ([0b10110001], .orC), ([0b10110010], .orD), ([0b10110011], .orE),
      ([0b10110100], .orH), ([0b10110101], .orL), ([0b10110110], .orAtHL), ([0b10110111], .orA)] = true ∧
    allDecode [([0b10111000], .cpB), ([0b10111001], .cpC), ([0b10111010], .cpD), ([0b10111011], .cpE),
      ([0b10111100], .cpH), ([0b10111101], .cpL), ([0b10111110], .cpAtHL), ([0b10111111], .cpA)] = true := by decide

/-- Opcodes 0xC0 to 0xDF (R110). -/
theorem test_decode_C0 :
    allDecode [([0b11000000], .retNZ), ([0b11000001], .popBC), ([0b11000010, 0x34, 0x12], .jpNZ 0x1234), ([0b11000011, 0x34, 0x12], .jp 0x1234),
      ([0b11000100, 0x34, 0x12], .callNZ 0x1234), ([0b11000101], .pushBC), ([0b11000110, 0xA5], .addA_n8 0xA5), ([0b11000111], .rst00)] = true ∧
    allDecode [([0b11001000], .retZ), ([0b11001001], .ret), ([0b11001010, 0x34, 0x12], .jpZ 0x1234), ([0b11001100, 0x34, 0x12], .callZ 0x1234),
      ([0b11001101, 0x34, 0x12], .call 0x1234), ([0b11001110, 0xA5], .adcA_n8 0xA5), ([0b11001111], .rst08), ([0b11010000], .retNC)] = true ∧
    allDecode [([0b11010001], .popDE), ([0b11010010, 0x34, 0x12], .jpNC 0x1234), ([0b11010011], .undefinedD3), ([0b11010100, 0x34, 0x12], .callNC 0x1234),
      ([0b11010101], .pushDE), ([0b11010110, 0xA5], .sub_n8 0xA5), ([0b11010111], .rst10), ([0b11011000], .retC)] = true ∧
    allDecode [([0b11011001], .reti), ([0b11011010, 0x34, 0x12], .jpC 0x1234), ([0b11011011], .undefinedDB), ([0b11011100, 0x34, 0x12], .callC 0x1234),
      ([0b11011101], .undefinedDD), ([0b11011110, 0xA5], .sbcA_n8 0xA5), ([0b11011111], .rst18)] = true := by decide

/-- Opcodes 0xE0 to 0xFF (R110). -/
theorem test_decode_E0 :
    allDecode [([0b11100000, 0xA5], .ldhA8_A 0xA5), ([0b11100001], .popHL), ([0b11100010], .ldAtC_A), ([0b11100011], .undefinedE3),
      ([0b11100100], .undefinedE4), ([0b11100101], .pushHL), ([0b11100110, 0xA5], .and_n8 0xA5), ([0b11100111], .rst20)] = true ∧
    allDecode [([0b11101000, 0xA5], .addSP_e8 0xA5), ([0b11101001], .jpHL), ([0b11101010, 0x34, 0x12], .ldA16_A 0x1234), ([0b11101011], .undefinedEB),
      ([0b11101100], .undefinedEC), ([0b11101101], .undefinedED), ([0b11101110, 0xA5], .xor_n8 0xA5), ([0b11101111], .rst28)] = true ∧
    allDecode [([0b11110000, 0xA5], .ldhA_A8 0xA5), ([0b11110001], .popAF), ([0b11110010], .ldA_AtC), ([0b11110011], .di),
      ([0b11110100], .undefinedF4), ([0b11110101], .pushAF), ([0b11110110, 0xA5], .or_n8 0xA5), ([0b11110111], .rst30)] = true ∧
    allDecode [([0b11111000, 0xA5], .ldHL_SPe8 0xA5), ([0b11111001], .ldSP_HL), ([0b11111010, 0x34, 0x12], .ldA_A16 0x1234), ([0b11111011], .ei),
      ([0b11111100], .undefinedFC), ([0b11111101], .undefinedFD), ([0b11111110, 0xA5], .cp_n8 0xA5), ([0b11111111], .rst38)] = true := by decide

/-- The secondary table (R111): rotates, shifts and swap. -/
theorem test_decode_secondary_rotates :
    allDecode [([0xCB, 0b00000000], .rlc (.reg .b)), ([0xCB, 0b00000001], .rlc (.reg .c)), ([0xCB, 0b00000010], .rlc (.reg .d)), ([0xCB, 0b00000011], .rlc (.reg .e)),
      ([0xCB, 0b00000100], .rlc (.reg .h)), ([0xCB, 0b00000101], .rlc (.reg .l)), ([0xCB, 0b00000110], .rlc .atHL), ([0xCB, 0b00000111], .rlc (.reg .a))] = true ∧
    allDecode [([0xCB, 0b00001000], .rrc (.reg .b)), ([0xCB, 0b00001110], .rrc .atHL), ([0xCB, 0b00001111], .rrc (.reg .a)), ([0xCB, 0b00010000], .rl (.reg .b)),
      ([0xCB, 0b00010110], .rl .atHL), ([0xCB, 0b00010111], .rl (.reg .a)), ([0xCB, 0b00011000], .rr (.reg .b)), ([0xCB, 0b00011110], .rr .atHL)] = true ∧
    allDecode [([0xCB, 0b00011111], .rr (.reg .a)), ([0xCB, 0b00100000], .sla (.reg .b)), ([0xCB, 0b00100110], .sla .atHL), ([0xCB, 0b00100111], .sla (.reg .a)),
      ([0xCB, 0b00101000], .sra (.reg .b)), ([0xCB, 0b00101110], .sra .atHL), ([0xCB, 0b00101111], .sra (.reg .a)), ([0xCB, 0b00110000], .swap (.reg .b))] = true ∧
    allDecode [([0xCB, 0b00110110], .swap .atHL), ([0xCB, 0b00110111], .swap (.reg .a)), ([0xCB, 0b00111000], .srl (.reg .b)), ([0xCB, 0b00111110], .srl .atHL),
      ([0xCB, 0b00111111], .srl (.reg .a))] = true := by decide

/-- The secondary table (R111): bit operations, every bit number and every operand code. -/
theorem test_decode_secondary_bits :
    allDecode [([0xCB, 0b01000110], .bit 0 .atHL), ([0xCB, 0b01001001], .bit 1 (.reg .c)), ([0xCB, 0b01010100], .bit 2 (.reg .h)), ([0xCB, 0b01011111], .bit 3 (.reg .a)),
      ([0xCB, 0b01100010], .bit 4 (.reg .d)), ([0xCB, 0b01101101], .bit 5 (.reg .l)), ([0xCB, 0b01110000], .bit 6 (.reg .b)), ([0xCB, 0b01111011], .bit 7 (.reg .e))] = true ∧
    allDecode [([0xCB, 0b10000110], .res 0 .atHL), ([0xCB, 0b10001001], .res 1 (.reg .c)), ([0xCB, 0b10010100], .res 2 (.reg .h)), ([0xCB, 0b10011111], .res 3 (.reg .a)),
      ([0xCB, 0b10100010], .res 4 (.reg .d)), ([0xCB, 0b10101101], .res 5 (.reg .l)), ([0xCB, 0b10110000], .res 6 (.reg .b)), ([0xCB, 0b10111011], .res 7 (.reg .e))] = true ∧
    allDecode [([0xCB, 0b11000110], .set 0 .atHL), ([0xCB, 0b11001001], .set 1 (.reg .c)), ([0xCB, 0b11010100], .set 2 (.reg .h)), ([0xCB, 0b11011111], .set 3 (.reg .a)),
      ([0xCB, 0b11100010], .set 4 (.reg .d)), ([0xCB, 0b11101101], .set 5 (.reg .l)), ([0xCB, 0b11110000], .set 6 (.reg .b)), ([0xCB, 0b11111011], .set 7 (.reg .e))] = true := by decide

/-- Too few bytes are refused by name. -/
theorem test_decode_refuses_short_input :
    (match decode [] with | .error .noByte => true | _ => false) = true ∧
    (match decode [0xCB] with | .error (.truncated 0xCB) => true | _ => false) = true ∧
    (match decode [0xC3, 0x50] with | .error (.truncated 0xC3) => true | _ => false) = true := by decide

/-- Table words: byte 0 in bits 7 to 0 for the primary rows, the prefix in bits 15 to 8 for the secondary ones
(notes/assumptions/9.md); operand bytes the row gives no bits are zero. -/
theorem test_decode_table_words :
    decodeTableWord 8 0x78 = some .ldA_B ∧ decodeTableWord 8 0xC3 = some (.jp 0) ∧ decodeTableWord 8 0x76 = some .halt ∧
    decodeTableWord 16 0xCB7E = some (.bit 7 .atHL) ∧ decodeTableWord 16 0xCB00 = some (.rlc (.reg .b)) := by decide

/-! ### Steps -/

/-- The starting state of the vectors: everything 0, the overlay off, `PC` at 0xC000 (95_test_vectors.md). -/
def base : State := { State.reset with pc := 0xC000, bootDisabled := true }

/-- A state with bytes placed at an address. -/
def State.poke (s : State) (a : Word) (bytes : List Byte) : State := s.loadBytes a bytes

/-- `AF BC DE HL SP PC`, the count, and the bytes at some addresses after one step of `bytes` from `s`. -/
def after (bytes : List Byte) (s : State) (addrs : List Word) : Option (List Word × Option Byte × List Byte) :=
  match step (State.poke s s.pc bytes) with
  | .next t => some ([t.af, t.bc, t.de, t.hl, t.sp, t.pc], t.cycles, addrs.map t.read)
  | _ => none

/-- The fault of one step of `bytes` from `s`, with `PC`, `SP` and the bytes at some addresses in the state it leaves. -/
def stops (bytes : List Byte) (s : State) (addrs : List Word) : Option (FaultReport × Word × Word × List Byte) :=
  match step (State.poke s s.pc bytes) with
  | .fault (.unimplementedOpcode op pc w) => some (.unimplementedOpcode op pc, w.pc, w.sp, addrs.map w.read)
  | .fault (.unimplementedMemoryCapability a v w) =>
    some (.unimplementedMemoryCapability a v, w.pc, w.sp, addrs.map w.read)
  | _ => none

/-- L1: `LD B,C`. -/
theorem test_L1 : after [0x41] ({ base with b := 0x00, c := 0x42 }) [] =
    some ([0x0000, 0x4242, 0x0000, 0x0000, 0x0000, 0xC001], some 4, []) := by decide

/-- L4: `LD H,(HL)`. -/
theorem test_L4 : after [0x66] (State.poke { base with h := 0xC1, l := 0x23 } 0xC123 [0x9A]) [] =
    some ([0x0000, 0x0000, 0x0000, 0x9A23, 0x0000, 0xC001], some 8, []) := by decide

/-- L6: `LD (HL),E`. -/
theorem test_L6 : after [0x73] ({ base with d := 0x00, e := 0x77, h := 0xC2, l := 0x00 }) [0xC200] =
    some ([0x0000, 0x0000, 0x0077, 0xC200, 0x0000, 0xC001], some 8, [0x77]) := by decide

/-- L11: `LD A,(BC)`. -/
theorem test_L11 : after [0x0A] ({ base with b := 0xFE, c := 0xA0 }) [] =
    some ([0xFF00, 0xFEA0, 0x0000, 0x0000, 0x0000, 0xC001], some 8, []) := by decide

/-- L14: `LD (DE),A`. -/
theorem test_L14 : after [0x12] ({ base with a := 0x3C, f := 0x00, d := 0xE0, e := 0x10 }) [0xC010, 0xE010] =
    some ([0x3C00, 0x0000, 0xE010, 0x0000, 0x0000, 0xC001], some 8, [0x3C, 0x3C]) := by decide

/-- L15: `LD (HL+),A`. -/
theorem test_L15 : after [0x22] ({ base with a := 0x55, f := 0x00, h := 0xFF, l := 0xFF }) [0xFFFF] =
    some ([0x5500, 0x0000, 0x0000, 0x0000, 0x0000, 0xC001], some 8, [0x55]) := by decide

/-- L18: `LD A,(HL-)`. -/
theorem test_L18 : after [0x3A] (State.poke base 0x0000 [0x66]) [] =
    some ([0x6600, 0x0000, 0x0000, 0xFFFF, 0x0000, 0xC001], some 8, []) := by decide

/-- L19: `LD (HL+),A (0xA000)`. -/
theorem test_L19 : stops [0x22] ({ base with a := 0x55, f := 0x00, h := 0xA0, l := 0x00 }) [] =
    some (.unimplementedMemoryCapability 0xA000 0x55, 0xC000, 0x0000, []) := by decide

/-- L21: `LDH (0x50),A`. -/
theorem test_L21 : after [0xE0, 0x50] ({ base with a := 0x01, f := 0x00 }) [0xFF50] =
    some ([0x0100, 0x0000, 0x0000, 0x0000, 0x0000, 0xC002], some 12, [0x01]) := by decide

/-- L23: `LDH (C),A`. -/
theorem test_L23 : after [0xE2] ({ base with a := 0x77, f := 0x00, b := 0x00, c := 0xFF }) [0xFFFF] =
    some ([0x7700, 0x00FF, 0x0000, 0x0000, 0x0000, 0xC001], some 8, [0x77]) := by decide

/-- L25: `LD (0xC345),A`. -/
theorem test_L25 : after [0xEA, 0x45, 0xC3] ({ base with a := 0x12, f := 0x00 }) [0xC345] =
    some ([0x1200, 0x0000, 0x0000, 0x0000, 0x0000, 0xC003], some 16, [0x12]) := by decide

/-- L26: `LD A,(0xFEFF)`. -/
theorem test_L26 : after [0xFA, 0xFF, 0xFE] base [] =
    some ([0xFF00, 0x0000, 0x0000, 0x0000, 0x0000, 0xC003], some 16, []) := by decide

/-- S3: `LD SP,HL`. -/
theorem test_S3 : after [0xF9] ({ base with h := 0xD1, l := 0x23 }) [] =
    some ([0x0000, 0x0000, 0x0000, 0xD123, 0xD123, 0xC001], some 8, []) := by decide

/-- S5: `LD (0xFFFF),SP`. -/
theorem test_S5 : after [0x08, 0xFF, 0xFF] ({ base with sp := 0xABCD }) [0xFFFF, 0x0000] =
    some ([0x0000, 0x0000, 0x0000, 0x0000, 0xABCD, 0xC003], some 20, [0xCD, 0x00]) := by decide

/-- S6: `LD HL,SP+0x02`. -/
theorem test_S6 : after [0xF8, 0x02] ({ base with a := 0x00, f := 0xF0, h := 0x12, l := 0x34, sp := 0xFFFE }) [] =
    some ([0x0030, 0x0000, 0x0000, 0x0000, 0xFFFE, 0xC002], some 12, []) := by decide

/-- S8: `LD HL,SP-1`. -/
theorem test_S8 : after [0xF8, 0xFF] ({ base with h := 0x12, l := 0x34, sp := 0x0001 }) [] =
    some ([0x0030, 0x0000, 0x0000, 0x0000, 0x0001, 0xC002], some 12, []) := by decide

/-- S11: `PUSH AF`. -/
theorem test_S11 : after [0xF5] ({ base with a := 0x12, f := 0xFF, sp := 0xD000 }) [0xCFFF, 0xCFFE] =
    some ([0x12FF, 0x0000, 0x0000, 0x0000, 0xCFFE, 0xC001], some 16, [0x12, 0xFF]) := by decide

/-- S12: `PUSH HL`. -/
theorem test_S12 : after [0xE5] ({ base with h := 0xBE, l := 0xEF, sp := 0x0001 }) [0x0000, 0xFFFF] =
    some ([0x0000, 0x0000, 0x0000, 0xBEEF, 0xFFFF, 0xC001], some 16, [0x00, 0xEF]) := by decide

/-- S13: `PUSH DE`. -/
theorem test_S13 : stops [0xD5] ({ base with d := 0x11, e := 0x22, sp := 0xC001, pc := 0xC800 }) [0xC000] =
    some (.unimplementedMemoryCapability 0xBFFF 0x22, 0xC800, 0xC001, [0x11]) := by decide

/-- S14: `PUSH DE`. -/
theorem test_S14 : stops [0xD5] ({ base with d := 0x11, e := 0x22, sp := 0xA001 }) [] =
    some (.unimplementedMemoryCapability 0xA000 0x11, 0xC000, 0xA001, []) := by decide

/-- S16: `POP AF`. -/
theorem test_S16 : after [0xF1] (State.poke (State.poke { base with sp := 0xCFFE } 0xCFFE [0x5F]) 0xCFFF [0x9A]) [] =
    some ([0x9A5F, 0x0000, 0x0000, 0x0000, 0xD000, 0xC001], some 12, []) := by decide

/-- S17: `POP HL`. -/
theorem test_S17 : after [0xE1] (State.poke (State.poke { base with sp := 0xFFFF } 0xFFFF [0x11]) 0x0000 [0x22]) [] =
    some ([0x0000, 0x0000, 0x0000, 0x2211, 0x0001, 0xC001], some 12, []) := by decide

/-- A1: `ADD A,B`. -/
theorem test_A1 : after [0x80] ({ base with a := 0x3A, f := 0x00, b := 0xC6, c := 0x00 }) [] =
    some ([0x00B0, 0xC600, 0x0000, 0x0000, 0x0000, 0xC001], some 4, []) := by decide

/-- A4: `ADD A,(HL)`. -/
theorem test_A4 : after [0x86] (State.poke { base with a := 0x3C, f := 0x00, h := 0xC1, l := 0x00 } 0xC100 [0x12]) [] =
    some ([0x4E00, 0x0000, 0x0000, 0xC100, 0x0000, 0xC001], some 8, []) := by decide

/-- A7: `ADC A,0xFF`. -/
theorem test_A7 : after [0xCE, 0xFF] ({ base with a := 0x00, f := 0x10 }) [] =
    some ([0x00B0, 0x0000, 0x0000, 0x0000, 0x0000, 0xC002], some 8, []) := by decide

/-- A11: `SUB (HL)`. -/
theorem test_A11 : after [0x96] (State.poke { base with a := 0x3E, f := 0x00, h := 0xC1, l := 0x00 } 0xC100 [0x40]) [] =
    some ([0xFE50, 0x0000, 0x0000, 0xC100, 0x0000, 0xC001], some 8, []) := by decide

/-- A14: `SBC A,0x00`. -/
theorem test_A14 : after [0xDE, 0x00] ({ base with a := 0x00, f := 0x10 }) [] =
    some ([0xFF70, 0x0000, 0x0000, 0x0000, 0x0000, 0xC002], some 8, []) := by decide

/-- A17: `AND 0x00`. -/
theorem test_A17 : after [0xE6, 0x00] ({ base with a := 0x5A, f := 0xF0 }) [] =
    some ([0x00A0, 0x0000, 0x0000, 0x0000, 0x0000, 0xC002], some 8, []) := by decide

/-- A18: `XOR A`. -/
theorem test_A18 : after [0xAF] ({ base with a := 0x5A, f := 0xFF }) [] =
    some ([0x008F, 0x0000, 0x0000, 0x0000, 0x0000, 0xC001], some 4, []) := by decide

/-- A20: `OR (HL)`. -/
theorem test_A20 : after [0xB6] (State.poke { base with a := 0x5A, f := 0x00, h := 0xC1, l := 0x00 } 0xC100 [0x0F]) [] =
    some ([0x5F00, 0x0000, 0x0000, 0xC100, 0x0000, 0xC001], some 8, []) := by decide

/-- A22: `CP 0x3C`. -/
theorem test_A22 : after [0xFE, 0x3C] ({ base with a := 0x3C, f := 0x00 }) [] =
    some ([0x3CC0, 0x0000, 0x0000, 0x0000, 0x0000, 0xC002], some 8, []) := by decide

/-- A23: `CP B`. -/
theorem test_A23 : after [0xB8] ({ base with a := 0x3C, f := 0x00, b := 0x40, c := 0x00 }) [] =
    some ([0x3C50, 0x4000, 0x0000, 0x0000, 0x0000, 0xC001], some 4, []) := by decide

/-- A25: `INC B`. -/
theorem test_A25 : after [0x04] ({ base with a := 0x00, f := 0x10, b := 0xFF, c := 0x00 }) [] =
    some ([0x00B0, 0x0000, 0x0000, 0x0000, 0x0000, 0xC001], some 4, []) := by decide

/-- A28: `INC (HL) (0xFEA0)`. -/
theorem test_A28 : after [0x34] ({ base with h := 0xFE, l := 0xA0 }) [] =
    some ([0x00A0, 0x0000, 0x0000, 0xFEA0, 0x0000, 0xC001], some 12, []) := by decide

/-- A30: `DEC L`. -/
theorem test_A30 : after [0x2D] ({ base with h := 0x00, l := 0x01 }) [] =
    some ([0x00C0, 0x0000, 0x0000, 0x0000, 0x0000, 0xC001], some 4, []) := by decide

/-- A31: `DEC (HL)`. -/
theorem test_A31 : after [0x35] (State.poke { base with h := 0xC1, l := 0x00 } 0xC100 [0x10]) [0xC100] =
    some ([0x0060, 0x0000, 0x0000, 0xC100, 0x0000, 0xC001], some 12, [0x0F]) := by decide

/-- A33: `DAA`. -/
theorem test_A33 : after [0x27] ({ base with a := 0x4B, f := 0x60 }) [] =
    some ([0x4540, 0x0000, 0x0000, 0x0000, 0x0000, 0xC001], some 4, []) := by decide

/-- A35: `DAA`. -/
theorem test_A35 : after [0x27] ({ base with a := 0x00, f := 0x70 }) [] =
    some ([0x9A50, 0x0000, 0x0000, 0x0000, 0x0000, 0xC001], some 4, []) := by decide

/-- A37: `DAA`. -/
theorem test_A37 : after [0x27] ({ base with a := 0xFA, f := 0x20 }) [] =
    some ([0x6010, 0x0000, 0x0000, 0x0000, 0x0000, 0xC001], some 4, []) := by decide

/-- A38: `CPL`. -/
theorem test_A38 : after [0x2F] ({ base with a := 0x35, f := 0x90 }) [] =
    some ([0xCAF0, 0x0000, 0x0000, 0x0000, 0x0000, 0xC001], some 4, []) := by decide

/-- A39: `SCF`. -/
theorem test_A39 : after [0x37] ({ base with a := 0x00, f := 0xE0 }) [] =
    some ([0x0090, 0x0000, 0x0000, 0x0000, 0x0000, 0xC001], some 4, []) := by decide

/-- A41: `CCF`. -/
theorem test_A41 : after [0x3F] base [] =
    some ([0x0010, 0x0000, 0x0000, 0x0000, 0x0000, 0xC001], some 4, []) := by decide

/-- W1: `INC BC`. -/
theorem test_W1 : after [0x03] ({ base with a := 0x00, f := 0xF0, b := 0xFF, c := 0xFF }) [] =
    some ([0x00F0, 0x0000, 0x0000, 0x0000, 0x0000, 0xC001], some 8, []) := by decide

/-- W4: `DEC HL`. -/
theorem test_W4 : after [0x2B] ({ base with a := 0x00, f := 0x50, h := 0x10, l := 0x00 }) [] =
    some ([0x0050, 0x0000, 0x0000, 0x0FFF, 0x0000, 0xC001], some 8, []) := by decide

/-- W5: `ADD HL,BC`. -/
theorem test_W5 : after [0x09] ({ base with a := 0x00, f := 0x80, b := 0x06, c := 0x05, h := 0x8A, l := 0x23 }) [] =
    some ([0x00A0, 0x0605, 0x0000, 0x9028, 0x0000, 0xC001], some 8, []) := by decide

/-- W8: `ADD HL,SP`. -/
theorem test_W8 : after [0x39] ({ base with h := 0xFF, l := 0xFF, sp := 0x0001 }) [] =
    some ([0x0030, 0x0000, 0x0000, 0x0000, 0x0001, 0xC001], some 8, []) := by decide

/-- W11: `ADD SP,-1`. -/
theorem test_W11 : after [0xE8, 0xFF] ({ base with sp := 0x0100 }) [] =
    some ([0x0000, 0x0000, 0x0000, 0x0000, 0x00FF, 0xC002], some 16, []) := by decide

/-- W13: `ADD SP,-128`. -/
theorem test_W13 : after [0xE8, 0x80] ({ base with sp := 0x0080 }) [] =
    some ([0x0010, 0x0000, 0x0000, 0x0000, 0x0000, 0xC002], some 16, []) := by decide

/-- B2: `RLCA`. -/
theorem test_B2 : after [0x07] ({ base with a := 0x00, f := 0x80 }) [] =
    some ([0x0000, 0x0000, 0x0000, 0x0000, 0x0000, 0xC001], some 4, []) := by decide

/-- B3: `RRCA`. -/
theorem test_B3 : after [0x0F] ({ base with a := 0x3B, f := 0x00 }) [] =
    some ([0x9D10, 0x0000, 0x0000, 0x0000, 0x0000, 0xC001], some 4, []) := by decide

/-- B5: `RLA`. -/
theorem test_B5 : after [0x17] ({ base with a := 0x80, f := 0x00 }) [] =
    some ([0x0010, 0x0000, 0x0000, 0x0000, 0x0000, 0xC001], some 4, []) := by decide

/-- B7: `RRA`. -/
theorem test_B7 : after [0x1F] ({ base with a := 0x01, f := 0x10 }) [] =
    some ([0x8010, 0x0000, 0x0000, 0x0000, 0x0000, 0xC001], some 4, []) := by decide

/-- B9: `RLC (HL)`. -/
theorem test_B9 : after [0xCB, 0x06] (State.poke { base with h := 0xC1, l := 0x00 } 0xC100 [0x00]) [0xC100] =
    some ([0x0080, 0x0000, 0x0000, 0xC100, 0x0000, 0xC002], some 16, [0x00]) := by decide

/-- B10: `RRC C`. -/
theorem test_B10 : after [0xCB, 0x09] ({ base with b := 0x00, c := 0x01 }) [] =
    some ([0x0010, 0x0080, 0x0000, 0x0000, 0x0000, 0xC002], some 8, []) := by decide

/-- B11: `RL L`. -/
theorem test_B11 : after [0xCB, 0x15] ({ base with h := 0x00, l := 0x80 }) [] =
    some ([0x0090, 0x0000, 0x0000, 0x0000, 0x0000, 0xC002], some 8, []) := by decide

/-- B13: `RR (HL)`. -/
theorem test_B13 : after [0xCB, 0x1E] (State.poke { base with a := 0x00, f := 0x10, h := 0xC1, l := 0x00 } 0xC100 [0x8A]) [0xC100] =
    some ([0x0000, 0x0000, 0x0000, 0xC100, 0x0000, 0xC002], some 16, [0xC5]) := by decide

/-- B15: `SLA (HL)`. -/
theorem test_B15 : after [0xCB, 0x26] (State.poke { base with h := 0xC1, l := 0x00 } 0xC100 [0xFF]) [0xC100] =
    some ([0x0010, 0x0000, 0x0000, 0xC100, 0x0000, 0xC002], some 16, [0xFE]) := by decide

/-- B17: `SRA E`. -/
theorem test_B17 : after [0xCB, 0x2B] ({ base with d := 0x00, e := 0x01 }) [] =
    some ([0x0090, 0x0000, 0x0000, 0x0000, 0x0000, 0xC002], some 8, []) := by decide

/-- B19: `SWAP (HL)`. -/
theorem test_B19 : after [0xCB, 0x36] (State.poke { base with a := 0x00, f := 0x10, h := 0xC1, l := 0x00 } 0xC100 [0x00]) [0xC100] =
    some ([0x0080, 0x0000, 0x0000, 0xC100, 0x0000, 0xC002], some 16, [0x00]) := by decide

/-- B21: `SRL H`. -/
theorem test_B21 : after [0xCB, 0x3C] ({ base with h := 0xFF, l := 0x00 }) [] =
    some ([0x0010, 0x0000, 0x0000, 0x7F00, 0x0000, 0xC002], some 8, []) := by decide

/-- B23: `BIT 4,L`. -/
theorem test_B23 : after [0xCB, 0x65] ({ base with h := 0x00, l := 0xEF }) [] =
    some ([0x00A0, 0x0000, 0x0000, 0x00EF, 0x0000, 0xC002], some 8, []) := by decide

/-- B24: `BIT 0,(HL)`. -/
theorem test_B24 : after [0xCB, 0x46] ({ base with h := 0xA0, l := 0x00 }) [] =
    some ([0x0020, 0x0000, 0x0000, 0xA000, 0x0000, 0xC002], some 12, []) := by decide

/-- B25: `RES 0,B`. -/
theorem test_B25 : after [0xCB, 0x80] ({ base with a := 0x00, f := 0xF0, b := 0xFF, c := 0x00 }) [] =
    some ([0x00F0, 0xFE00, 0x0000, 0x0000, 0x0000, 0xC002], some 8, []) := by decide

/-- B28: `SET 7,(HL)`. -/
theorem test_B28 : after [0xCB, 0xFE] (State.poke { base with h := 0xFF, l := 0x50 } 0xFF50 [0x00]) [0xFF50] =
    some ([0x0000, 0x0000, 0x0000, 0xFF50, 0x0000, 0xC002], some 16, [0x80]) := by decide

/-- B29: `SET 0,(HL)`. -/
theorem test_B29 : stops [0xCB, 0xC6] ({ base with h := 0xB0, l := 0x00 }) [] =
    some (.unimplementedMemoryCapability 0xB000 0xFF, 0xC000, 0x0000, []) := by decide

/-- C2: `JP NZ,0x1234`. -/
theorem test_C2 : after [0xC2, 0x34, 0x12] ({ base with a := 0x00, f := 0x80 }) [] =
    some ([0x0080, 0x0000, 0x0000, 0x0000, 0x0000, 0xC003], some 12, []) := by decide

/-- C3: `JP NZ,0x1234`. -/
theorem test_C3 : after [0xC2, 0x34, 0x12] base [] =
    some ([0x0000, 0x0000, 0x0000, 0x0000, 0x0000, 0x1234], some 16, []) := by decide

/-- C7: `JP HL`. -/
theorem test_C7 : after [0xE9] ({ base with h := 0xFF, l := 0xFF }) [] =
    some ([0x0000, 0x0000, 0x0000, 0xFFFF, 0x0000, 0xFFFF], some 4, []) := by decide

/-- C8: `JP 0x0150 at 0xFFFE`. -/
theorem test_C8 : after [0xC3, 0x50] (State.poke { base with pc := 0xFFFE } 0x0000 [0x01]) [] =
    some ([0x0000, 0x0000, 0x0000, 0x0000, 0x0000, 0x0150], some 16, []) := by decide

/-- C11: `JR -128`. -/
theorem test_C11 : after [0x18, 0x80] base [] =
    some ([0x0000, 0x0000, 0x0000, 0x0000, 0x0000, 0xBF82], some 12, []) := by decide

/-- C12: `JR +0 at 0xFFFF`. -/
theorem test_C12 : after [0x18] (State.poke { base with pc := 0xFFFF } 0x0000 [0x00]) [] =
    some ([0x0000, 0x0000, 0x0000, 0x0000, 0x0000, 0x0001], some 12, []) := by decide

/-- C16: `JR C,+0x7F`. -/
theorem test_C16 : after [0x38, 0x7F] ({ base with a := 0x00, f := 0x10 }) [] =
    some ([0x0010, 0x0000, 0x0000, 0x0000, 0x0000, 0xC081], some 12, []) := by decide

/-- C17: `CALL 0x1234`. -/
theorem test_C17 : after [0xCD, 0x34, 0x12] ({ base with sp := 0xFFFE, pc := 0x0150 }) [0xFFFD, 0xFFFC] =
    some ([0x0000, 0x0000, 0x0000, 0x0000, 0xFFFC, 0x1234], some 24, [0x01, 0x53]) := by decide

/-- C20: `CALL 0x0040 (SP in ROM)`. -/
theorem test_C20 : after [0xCD, 0x40, 0x00] ({ base with sp := 0x4000 }) [] =
    some ([0x0000, 0x0000, 0x0000, 0x0000, 0x3FFE, 0x0040], some 24, []) := by decide

/-- C21: `CALL 0x0040 (SP=0xB000)`. -/
theorem test_C21 : stops [0xCD, 0x40, 0x00] ({ base with sp := 0xB000 }) [] =
    some (.unimplementedMemoryCapability 0xAFFF 0xC0, 0xC000, 0xB000, []) := by decide

/-- C24: `RET Z`. -/
theorem test_C24 : after [0xC8] (State.poke (State.poke { base with a := 0x00, f := 0x80, sp := 0xCFFE } 0xCFFE [0x53]) 0xCFFF [0x01]) [] =
    some ([0x0080, 0x0000, 0x0000, 0x0000, 0xD000, 0x0153], some 20, []) := by decide

/-- C25: `RET NC`. -/
theorem test_C25 : after [0xD0] (State.poke (State.poke { base with a := 0x00, f := 0x10, sp := 0xCFFE } 0xCFFE [0x53]) 0xCFFF [0x01]) [] =
    some ([0x0010, 0x0000, 0x0000, 0x0000, 0xCFFE, 0xC001], some 8, []) := by decide

/-- C26: `RETI`. -/
theorem test_C26 : after [0xD9] (State.poke (State.poke { base with sp := 0xCFFE } 0xCFFE [0x53]) 0xCFFF [0x01]) [] =
    some ([0x0000, 0x0000, 0x0000, 0x0000, 0xD000, 0x0153], some 16, []) := by decide

/-- C28: `RST 0x00`. -/
theorem test_C28 : after [0xC7] ({ base with sp := 0xC100, pc := 0xFFFF }) [0xC0FF, 0xC0FE] =
    some ([0x0000, 0x0000, 0x0000, 0x0000, 0xC0FE, 0x0000], some 16, [0x00, 0x00]) := by decide

/-- Y1: `NOP`. -/
theorem test_Y1 : after [0x00] ({ base with a := 0x12, f := 0xF0, b := 0x34, c := 0x56 }) [] =
    some ([0x12F0, 0x3456, 0x0000, 0x0000, 0x0000, 0xC001], some 4, []) := by decide

/-- Y5: `HALT`. -/
theorem test_Y5 : stops [0x76] base [] =
    some (.unimplementedOpcode 0x76 0xC000, 0xC000, 0x0000, []) := by decide

/-- Y6: `STOP`. -/
theorem test_Y6 : stops [0x10, 0x00] base [] =
    some (.unimplementedOpcode 0x10 0xC000, 0xC000, 0x0000, []) := by decide

/-- Y9: `(0xED) at 0xFFFF`. -/
theorem test_Y9 : stops [0xED] ({ base with pc := 0xFFFF }) [] =
    some (.unimplementedOpcode 0xED 0xFFFF, 0xFFFF, 0x0000, []) := by decide

/-- A fault record stops every further step (60_exceptions.md R324). -/
theorem test_faulted_machine_is_stuck :
    (match step { base with fault := some (.unimplementedOpcode 0x76 0xC000) } with
      | .fault (.stuck (.unimplementedOpcode 0x76 0xC000)) => true
      | _ => false) = true := by decide

/-- An opcode left out of `ADMITTED_OPCODES` raises with its byte, primary and secondary; a pinned one runs (46_system.md R307). -/
theorem test_admitted_opcodes :
    stops [0x04] { base with launch := { base.launch with excludedPrimary := [0x04] } } [] =
      some (.unimplementedOpcode 0x04 0xC000, 0xC000, 0x0000, []) ∧
    stops [0xCB, 0x37] { base with launch := { base.launch with excludedSecondary := [0x37] } } [] =
      some (.unimplementedOpcode 0x37 0xC000, 0xC000, 0x0000, []) ∧
    after [0xAF] { base with launch := { base.launch with excludedPrimary := [0xAF] } } [] =
      some ([0x0080, 0, 0, 0, 0, 0xC001], some 4, []) := by decide

/-- With `WRAM_SIZE = 0x1000` the second window mirrors the first (20_memory.md R63). -/
theorem test_half_wram_mirrors :
    after [0x77] { base with a := 0x5A, h := 0xC1, l := 0x23, launch := { base.launch with wramSize := .half } }
      [0xC123, 0xD123, 0xE123, 0xF123, 0xC124] =
      some ([0x5A00, 0, 0, 0xC123, 0, 0xC001], some 8, [0x5A, 0x5A, 0x5A, 0x5A, 0x00]) := by decide

/-- The placed instruction is the next one step runs, from reset and where `PC` has no byte to place. -/
theorem test_withFetchWord :
    (match step (State.reset.withFetchWord 8 0x3C) with | .next t => t.a == 1 && t.pc == 1 | _ => false) = true ∧
    (match step (State.reset.withFetchWord 16 0xCBC7) with | .next t => t.a == 1 && t.pc == 2 | _ => false) = true ∧
    (match step (State.withFetchWord { base with pc := 0xA000 } 8 0x3C) with
      | .next t => t.a == 1 && t.pc == 0xC001
      | _ => false) = true := by decide

/-- `State.reset` is the machine the host builds from the default parameters (70_reset_and_hazards.md R350). -/
theorem test_reset_is_constructed : construct .default = .ok State.reset := by
  have e : ∀ n k, Memory.ofBytesFrom k (List.replicate n 0) = [] := by
    intro n
    induction n with
    | zero => exact fun _ => rfl
    | succ n ih => exact fun k => ih (k + 1)
  have h : LaunchParams.default.bootRom.toList = List.replicate 256 0 := Vector.toList_replicate
  show Except.ok (LaunchParams.machine _ _) = _
  unfold LaunchParams.machine Memory.ofBytes
  rw [h, e]
  rfl

/-- No machine without a cartridge, nor with a bank-switched one (20_memory.md R74, R75). -/
theorem test_no_machine :
    construct { LaunchParams.default with cartridge := .absent } = .error .noCartridge ∧
    construct { LaunchParams.default with cartridge := .bankSwitched "MBC1" } = .error (.unimplementedVariant "MBC1") :=
  ⟨rfl, rfl⟩

/-! ### Values that meet the hypotheses of the statements -/

/-- `State.Inv` on a state that can be evaluated. -/
theorem inv_of_eval {s : State} (h : (s.storesWf && s.overlayConsistent) = true) : s.Inv := by
  simpa [State.Inv] using h

/-- A next state exists where the step or the instruction answers one. -/
def completes : Res → Bool
  | .next _ => true
  | _ => false

theorem exists_of_completes {r : Res} (h : completes r = true) : ∃ t, r = .next t := by
  cases r with
  | next t => exact ⟨t, rfl⟩
  | fault => cases h
  | refused => cases h

theorem witness_DecodeOfEncodeIsIdentity :
    (Instr.set 7 .atHL).wellFormed = true ∧ (Instr.call 0xFFFF).wellFormed = true ∧ Instr.undefinedFD.wellFormed = true := by decide

theorem witness_EncodeOfDecodeIsIdentity : decode [0xCD, 0x34, 0x12, 0x99] = .ok (.call 0x1234, [0x99]) := by rfl

/-- An instruction whose bytes wrap from 0xFFFF to 0x0000. -/
theorem witness_StepRunsDecodedInstruction :
    let s := { base with pc := 0xFFFF, ie := 0x3E }
    mayRun s ∧ decode [s.read s.pc, s.read (s.pc + 1), s.read (s.pc + 2)] = .ok (.ldA_n8 0x00, [0x00]) :=
  ⟨by decide, rfl⟩

/-- A state whose next opcode is `op` and whose opcodes `ex` and secondary opcodes `ex2` are left out. -/
def excluding (bytes : List Byte) (ex ex2 : List Byte) : State :=
  State.poke { base with launch := { base.launch with excludedPrimary := ex, excludedSecondary := ex2 } } 0xC000 bytes

theorem witness_ExcludedOpcodesRaise :
    (let s := excluding [0x01] [0x01] []
     s.fault = none ∧ s.read s.pc ∈ s.launch.excludedPrimary ∧ s.read s.pc ∉ [(0x00 : Byte), 0xAF, 0xC3, 0xCB]) ∧
    (let s := excluding [0xCB, 0xFF] [0xCB] [0xFF]
     s.fault = none ∧ s.read s.pc = 0xCB ∧ s.read (s.pc + 1) ∈ s.launch.excludedSecondary) ∧
    (let s := excluding [] [0x00] []
     s.fault = none ∧ s.read s.pc = 0x00) ∧
    (let s := excluding [0xAF] [0xAF] []
     s.fault = none ∧ s.read s.pc = 0xAF) ∧
    (let s := excluding [0xC3] [0xC3] []
     s.fault = none ∧ s.read s.pc = 0xC3) ∧
    (let s := excluding [0xCB] [0xCB] [0xFF]
     s.fault = none ∧ s.read s.pc = 0xCB ∧ s.read (s.pc + 1) ∉ s.launch.excludedSecondary) := by decide

theorem witness_FaultedMachineNeverSteps :
    ({ base with fault := some (.unimplementedMemoryCapability 0xA000 0x55) } : State).fault =
      some (.unimplementedMemoryCapability 0xA000 0x55) ∧
    ∃ t, step base = .next t := ⟨rfl, exists_of_completes (by decide)⟩

/-- Each clause: an excluded `op2`, an admitted one, a register operand, `BIT` on `(HL)` in the window, `(HL)` outside it. -/
theorem witness_PrefixRunsSecondaryTable :
    (let s := excluding [0xCB, 0x00] [] [0x00]
     s.fault = none ∧ s.read s.pc = 0xCB ∧ s.read (s.pc + 1) ∈ s.launch.excludedSecondary) ∧
    (let s := excluding [0xCB, 0x07] [] []
     s.read (s.pc + 1) ∉ s.launch.excludedSecondary ∧ (s.read (s.pc + 1)).extractLsb' 0 3 ≠ 0b110) ∧
    (let s := { excluding [0xCB, 0x7E] [] [] with h := 0xA0, l := 0x00 }
     s.read (s.pc + 1) ∉ s.launch.excludedSecondary ∧ (s.read (s.pc + 1)).extractLsb' 6 2 = 0b01 ∧ absent s.hl) ∧
    (let s := { excluding [0xCB, 0xFE] [] [] with h := 0xC0, l := 0x00 }
     s.read (s.pc + 1) ∉ s.launch.excludedSecondary ∧ ¬ absent s.hl) := by decide

/-- The edges of the window without a store, for `Writes` through `HL`, `BC`, `DE` and an immediate address: StoreAtHL,
StoreAccumulator, IncrementDecrementMemory, RotateAndShift, ResetAndSetBit, WriteFollowsAddressMap. -/
theorem witness_Writes :
    (¬ absent (word 0x9F 0xFF) ∧ absent (word 0xA0 0x00) ∧ absent (word 0xBF 0xFF) ∧ ¬ absent (word 0xC0 0x00)) ∧
    absent ({ base with h := 0xA0 } : State).hl ∧ ¬ absent ({ base with h := 0x9F, l := 0xFF } : State).hl ∧
    absent ({ base with b := 0xBF, c := 0xFF } : State).bc ∧ ¬ absent ({ base with b := 0xC0 } : State).bc ∧
    absent ({ base with d := 0xA0 } : State).de ∧ ¬ absent ({ base with d := 0xC0 } : State).de := by decide

/-- The three clauses of a word stored to `a16`, at both edges of the window. -/
theorem witness_StoreStackPointer :
    (¬ absent (0x9FFE + 1 : Word) ∧ ¬ absent (0x9FFE : Word)) ∧ (¬ absent (0xC000 + 1 : Word) ∧ ¬ absent (0xC000 : Word)) ∧
    absent (0x9FFF + 1 : Word) ∧ absent (0xBFFE + 1 : Word) ∧
    (¬ absent (0xBFFF + 1 : Word) ∧ absent (0xBFFF : Word)) := by decide

/-- The three clauses of a push, at both edges of the window: PushPair, Calls, Restarts. -/
theorem witness_Pushes :
    (¬ absent (({ base with sp := 0xA000 } : State).sp - 1) ∧ ¬ absent (({ base with sp := 0xA000 } : State).sp - 2)) ∧
    (¬ absent (({ base with sp := 0xC002 } : State).sp - 1) ∧ ¬ absent (({ base with sp := 0xC002 } : State).sp - 2)) ∧
    absent (({ base with sp := 0xA001 } : State).sp - 1) ∧ absent (({ base with sp := 0xC000 } : State).sp - 1) ∧
    (¬ absent (({ base with sp := 0xC001 } : State).sp - 1) ∧ absent (({ base with sp := 0xC001 } : State).sp - 2)) := by decide

/-- Each condition true and false: Calls. -/
theorem witness_Calls :
    (∀ cc : Cond, cc = .nz ∨ cc = .nc → holds 0x00 cc = true ∧ holds 0x90 cc = false) ∧
    (∀ cc : Cond, cc = .z ∨ cc = .c → holds 0x90 cc = true ∧ holds 0x00 cc = false) := by
  refine ⟨?_, ?_⟩ <;> intro cc h <;> rcases h with rfl | rfl <;> decide

/-- PushThenPopReturnsValue and CallThenReturnComesBack, at the lowest stack of work RAM and at a wrapping one. -/
theorem witness_PushThenPopReturnsValue :
    (let s := { base with sp := 0xC002 }
     s.Inv ∧ writable (s.sp - 1) ∧ writable (s.sp - 2)) ∧
    (let s := { base with sp := 0x0001 }
     ¬ writable (s.sp - 1)) ∧
    (let s := { base with sp := 0x0000 }
     s.Inv ∧ writable (s.sp - 1) ∧ writable (s.sp - 2)) :=
  ⟨⟨inv_of_eval (by decide), by decide⟩, by decide, ⟨inv_of_eval (by decide), by decide⟩⟩

theorem witness_IncrementDecrementMemory : absent ({ base with h := 0xBF, l := 0xFF } : State).hl := by decide

theorem witness_DecimalArithmeticIsExact :
    (99 < 100 ∧ 1 < 100 ∧ ({ base with a := 0x99 } : State).a = bcd 99) ∧
    (0 < 100 ∧ 99 < 100 ∧ ({ base with a := 0x00 } : State).a = bcd 0) := by decide

theorem witness_WriteFollowsAddressMap : ¬ absent 0x9FFF ∧ ¬ absent 0xC000 ∧ absent 0xA000 ∧ absent 0xBFFF := by decide

/-- The first and last echo byte, and the mirror of half-size work RAM. -/
theorem witness_ReadAfterWriteThroughAliases :
    base.Inv ∧ (writable 0xC000 ∧ aliases .full 0xC000 0xE000) ∧ (writable 0xFDFF ∧ aliases .full 0xFDFF 0xDDFF) ∧
    (writable 0xDFFF ∧ aliases .half 0xDFFF 0xCFFF) ∧ writable 0xFFFF ∧ aliases .full 0xFFFF 0xFFFF :=
  ⟨inv_of_eval (by decide), by decide⟩

theorem witness_WordWriteReadsBack :
    base.Inv ∧ (writable 0x8000 ∧ writable (0x8000 + 1)) ∧ (writable 0xFFFE ∧ writable (0xFFFE + 1)) ∧
    writable 0xCFFF ∧ writable (0xCFFF + 1) := ⟨inv_of_eval (by decide), by decide⟩

theorem witness_OverlayHandOver : State.reset.Inv ∧ (0x01 : Byte) ≠ 0 := ⟨inv_of_eval (by decide), by decide⟩

/-- `LDH (0x50),A` from a machine whose overlay is on: StepKeepsInvariant, OverlayLatchIsOneWay, FaultedMachineNeverSteps,
CycleCountsAreInRange, RomNeverChanges. -/
theorem witness_StepKeepsInvariant :
    let s := State.poke { base with a := 0x01, bootDisabled := false } 0xC000 [0xE0, 0x50]
    s.Inv ∧ ∃ t, step s = .next t := ⟨inv_of_eval (by decide), exists_of_completes (by decide)⟩

/-- `LD (HL),n8` at 0xC100 is the instruction of the next witness. -/
def storing : State := { base with h := 0xC1, l := 0x00 }

/-- An address past the overlay window that does not share its byte with the one stored to. -/
theorem witness_MemoryFrame :
    storing.Inv ∧ (∃ t, exec (.ldAtHL_n8 0x5A) storing = .next t) ∧ 0x00FF < (0xC101 : Word).toNat ∧
    ∀ b ∈ storedAt (.ldAtHL_n8 0x5A) storing, ¬ aliases storing.launch.wramSize 0xC101 b := by
  have e : storedAt (.ldAtHL_n8 0x5A) storing = [0xC100] := rfl
  have n : ¬ aliases storing.launch.wramSize 0xC101 0xC100 := by decide
  refine ⟨inv_of_eval (by decide), exists_of_completes (by decide), by decide, ?_⟩
  intro b hb
  rw [e, List.mem_singleton] at hb
  exact hb ▸ n

/-- An address in the overlay window, which the step leaves on. -/
theorem witness_MemoryFrame_overlay :
    (match exec (.ldAtHL_n8 0x5A) storing with | .next t => t.bootDisabled == storing.bootDisabled | _ => false) = true ∧
    ¬ aliases storing.launch.wramSize 0x00FF 0xC100 := by decide

/-- The latch set before, and the latch set by this instruction. -/
theorem witness_OverlayLatchIsOneWay :
    (base.Inv ∧ base.bootDisabled = true ∧ ∃ t, exec .nop base = .next t) ∧
    (let s := { base with a := 0x01, bootDisabled := false }
     s.Inv ∧ s.bootDisabled = false ∧
       (match exec (.ldhA8_A 0x50) s with | .next t => t.bootDisabled | _ => false) = true) :=
  ⟨⟨inv_of_eval (by decide), rfl, exists_of_completes (by decide)⟩, inv_of_eval (by decide), rfl, by decide⟩

theorem witness_RomNeverChanges :
    (∃ t, exec (.ldAtHL_n8 0x99) { base with h := 0x01 } = .next t) ∧ 0x0100 ≤ (0x0100 : Word).toNat ∧
    (0x7FFF : Word).toNat ≤ 0x7FFF := ⟨exists_of_completes (by decide), by decide, by decide⟩

theorem witness_LowNibbleOfFlagsIsStorage :
    (Instr.xorA ≠ .popAF ∧ ∃ t, exec .xorA { base with f := 0xFF } = .next t) ∧ ∃ t, exec .popAF base = .next t :=
  ⟨⟨by decide, exists_of_completes (by decide)⟩, exists_of_completes (by decide)⟩

theorem witness_ImeIsWrittenByThreeAndReadByNone :
    Instr.nop ≠ .di ∧ Instr.nop ≠ .ei ∧ Instr.nop ≠ .reti ∧ (∃ t, exec .nop { base with ime := true } = .next t) ∧
    ∃ t, exec .reti base = .next t :=
  ⟨by decide, by decide, by decide, exists_of_completes (by decide), exists_of_completes (by decide)⟩

/-- A step that raises each of the two faults. -/
theorem witness_StepFaultsAsStated :
    (match step (State.poke base 0xC000 [0x76]) with | .fault (.unimplementedOpcode 0x76 0xC000 _) => true | _ => false) = true ∧
    (match step (State.poke { base with h := 0xA0 } 0xC000 [0x34]) with
      | .fault (.unimplementedMemoryCapability 0xA000 0x00 _) => true
      | _ => false) = true := by decide

theorem witness_CycleCountsAreInRange : ∃ t, step (State.poke base 0xC000 [0xCD]) = .next t := exists_of_completes (by decide)

theorem witness_EndMarkerLoopsForEver :
    let s := State.poke base 0xC000 [0x18, 0xFE]
    s.finished = true ∧ mayRun s := by decide

/-- A finished state, one that is not, and an end state one step away (`NOP` before `JR -2`). -/
theorem witness_EndStateIsTheFirstFinished :
    (State.poke base 0xC000 [0x18, 0xFE]).finished = true ∧
    (let s := State.poke base 0xC000 [0x00, 0x18, 0xFE]
     s.finished = false ∧ EndsIn s { s with pc := 0xC001, cycles := some 4 }) := by
  refine ⟨by decide, by decide, 1, by rfl, by decide, fun k u hk hu => ?_⟩
  cases Nat.lt_one_iff.mp hk
  cases hu
  decide

theorem witness_ConstructedMachineIsReset : ∃ s, construct .default = .ok s := ⟨_, test_reset_is_constructed⟩

theorem witness_CartridgeImageIsCheckedAndPadded :
    65535 < (List.replicate 65536 (0 : Byte)).length ∧ (List.replicate 65535 (0 : Byte)).length ≤ 65535 ∧
    0x0100 ≤ (0x0100 : Word).toNat ∧ (0x7FFF : Word).toNat ≤ 0x7FFF := by
  rw [List.length_replicate, List.length_replicate]
  decide

theorem witness_VideoMemoryIsTheWindow : 0 < 8192 ∧ 8191 < 8192 := by decide

end Sys2Proof.Tests
end

section
/-! PROOFS. A step runs the instruction decoded at `PC` (O4), and the memory frame of every instruction (O48). -/

open Sys2Proof.Stated

namespace Sys2Proof

/-! ### Decoding the three bytes a fetch reads -/

theorem opcodeLength_le_three (op : Byte) : opcodeLength op ≤ 3 := by
  unfold opcodeLength
  split_ifs <;> decide

/-- Three bytes hold any instruction, so they decode (30_encoding.md R103, R112). -/
theorem decode_three_bytes (op b1 b2 : Byte) :
    decode [op, b1, b2] = .ok (decodeBytes op b1 b2, [b1, b2].drop (opcodeLength op - 1)) :=
  if_neg (Nat.not_lt.mpr (opcodeLength_le_three op))

end Sys2Proof

namespace Sys2Proof.Machine

/-- What the bytes at `PC` decode to is the instruction the fetch takes. -/
theorem instrAt_of_decode {s : State} {i : Instr} {rest : List Byte}
    (h : decode [s.read s.pc, s.read (s.pc + 1), s.read (s.pc + 2)] = .ok (i, rest)) : s.instrAt = i := by
  rw [decode_three_bytes] at h
  exact congrArg Prod.fst (Except.ok.inj h)

/-- Settles O4: the admitted opcode is fetched, and what is fetched is what the bytes at `PC` decode to. -/
theorem stepRunsDecodedInstruction : Obligations.StepRunsDecodedInstruction := by
  unfold Obligations.StepRunsDecodedInstruction
  rintro s i rest ⟨hfault, hprimary, hsecondary⟩ hdecode
  have hfetch : s.fetch = .ok i := instrAt_of_decode hdecode ▸ fetch_of_admitted hprimary hsecondary
  exact step_of_fetch_ok hfault hfetch

/-! ### What a store, and a list of stores, leaves readable as before -/

/-- An address that selects another byte than the one stored to reads as before (20_memory.md R53, R82). -/
theorem read_store_of_not_aliases {s : State} (hw : s.storesWf = true) {a b : Word} (v : Byte)
    (hab : ¬ aliases s.launch.wramSize a b)
    (hlatch : 0x00FF < a.toNat ∨ (s.store b v).bootDisabled = s.bootDisabled) : (s.store b v).read a = s.read a := by
  rw [read_store hw b a v hlatch, if_neg]
  rintro ⟨hplace, hstores⟩
  exact hab (eq_or_wram_of_place_eq hplace hstores)

/-- Stores never clear the latch (10_state.md R31). -/
theorem Stores.bootDisabled_of_set {ws : List (Word × Byte)} {s t : State} (h : Stores ws s (.next t))
    (hs : s.bootDisabled = true) : t.bootDisabled = true :=
  Stores.keeps (fun u => u.bootDisabled = true) (fun _ a v hu => bootDisabled_store_of_set hu a v)
    (fun _ _ hu ⟨_, _, _, _, _, _, hlatch, _⟩ => hlatch.trans hu) ws h hs

/-- Where the latch ends as it began, the first store left it, and so did the others. -/
theorem Stores.latch_kept_between {ws : List (Word × Byte)} {s t : State} {a : Word} {v : Byte}
    (h : Stores ws (s.store a v) (.next t)) (ht : t.bootDisabled = s.bootDisabled) :
    (s.store a v).bootDisabled = s.bootDisabled ∧ t.bootDisabled = (s.store a v).bootDisabled := by
  have hfirst : (s.store a v).bootDisabled = s.bootDisabled := by
    cases hs : s.bootDisabled with
    | true => exact bootDisabled_store_of_set hs a v
    | false =>
      by_contra hset
      have htrue := h.bootDisabled_of_set (by simpa using hset)
      rw [ht, hs] at htrue
      cases htrue
  exact ⟨hfirst, ht.trans hfirst.symm⟩

/-- The memory frame of a list of stores: an address that selects none of their bytes reads as before. -/
theorem Stores.read_of_not_aliases {ws : List (Word × Byte)} {s t : State} {a : Word} (h : Stores ws s (.next t)) (hs : s.Inv)
    (hws : ∀ b ∈ ws.map Prod.fst, ¬ aliases s.launch.wramSize a b)
    (hlatch : 0x00FF < a.toNat ∨ t.bootDisabled = s.bootDisabled) : t.read a = s.read a := by
  induction ws generalizing s with
  | nil =>
    obtain ⟨u, hu, hsame, -⟩ := h
    cases hu
    exact hsame.read a
  | cons w ws ih =>
    obtain ⟨b, v⟩ := w
    obtain ⟨-, g, hraise⟩ | ⟨-, hrest⟩ := h
    · exact absurd hraise.symm (raise_ne_next _ _ _)
    · rw [List.map_cons, List.forall_mem_cons] at hws
      obtain ⟨hb, hws⟩ := hws
      have hsplit := hlatch.imp_right hrest.latch_kept_between
      calc t.read a
        _ = (s.store b v).read a :=
          ih hrest (inv_store hs b v) (by rwa [State.store_launch]) (hsplit.imp_right And.right)
        _ = s.read a := read_store_of_not_aliases hs.1 v hb (hsplit.imp_right And.left)

/-- Settles O48: an instruction that answers a next state has made its stores, at the addresses `storedAt` names, and changed
registers besides; those stores leave every other byte readable as before. -/
theorem memoryFrame : Obligations.MemoryFrame := by
  unfold Obligations.MemoryFrame
  intro i s t a hs hexec haddrs hlatch
  obtain ⟨op, hraise⟩ | ⟨ws, hstores, hws⟩ := exec_effect i s
  · exact absurd (hraise.symm.trans hexec) (raise_ne_next _ _ _)
  · rw [hexec] at hstores
    exact hstores.read_of_not_aliases hs (hws ▸ haddrs) hlatch

end Sys2Proof.Machine
end

section
/-! PROOFS. The state (10_state.md): the invariant (O46, O47), the overlay latch (O45, O49), the low bits of `F` (O51), `ime`
(O52), register pairs (O8) and reset (O56, O58). -/

open Sys2Proof.Stated

namespace Sys2Proof.Machine

/-! ### The invariant -/

/-- Every instruction keeps the invariant. -/
theorem exec_keeps_inv {i : Instr} {s t : State} (h : exec i s = .next t) (hs : s.Inv) : t.Inv :=
  exec_keeps State.Inv (fun _ a v hu => inv_store hu a v) (fun _ _ hu hsame => hsame.inv hu) h hs

/-- Settles O46: a completed step executed one instruction, and an instruction only stores bytes and changes registers. -/
theorem stepKeepsInvariant : Obligations.StepKeepsInvariant := by
  unfold Obligations.StepKeepsInvariant
  intro s t hs hstep
  obtain ⟨-, hexec⟩ := step_eq_next hstep
  exact exec_keeps_inv hexec hs

/-- Settles O47: the stores are empty and 0xFF50 reads zero. -/
theorem resetMeetsInvariant : Obligations.ResetMeetsInvariant := by
  unfold Obligations.ResetMeetsInvariant State.Inv
  decide

/-! ### The overlay latch -/

/-- The overlay disable register has one address (10_state.md R31). -/
theorem place_eq_overlay_iff (s : State) (a : Word) : s.place a = .io Config.overlayOffset ↔ a = 0xFF50 := by
  have haddr : (0xFF50 : Word).toNat = 0xFF50 := rfl
  rw [place_eq_io_iff, Config.overlayOffset, ← BitVec.toNat_inj]
  omega

/-- The latch after a byte write: set by a nonzero byte at 0xFF50 (20_memory.md R68). -/
theorem bootDisabled_store (s : State) (a : Word) (v : Byte) :
    (s.store a v).bootDisabled = (s.bootDisabled || decide (a = 0xFF50 ∧ v ≠ 0)) := by
  have hplace : (s.place a == .io Config.overlayOffset) = decide (a = 0xFF50) := by
    simp only [Bool.beq_eq_decide_eq, place_eq_overlay_iff]
  rw [State.store, bootDisabled_storePlace, hplace, Bool.decide_and, decide_not]
  rfl

/-- A byte written to 0xFF50 is stored there and reads back (20_memory.md R68). -/
theorem read_store_overlay {s : State} (hs : s.Inv) (v : Byte) : (s.store 0xFF50 v).read 0xFF50 = v := by
  rw [read_store hs.1 _ _ _ (.inl (by decide)), if_pos ⟨rfl, (place_stores_iff s _).mpr (by decide)⟩]

theorem write_overlay (s : State) (v : Byte) : write 0xFF50 v s = .next (s.store 0xFF50 v) := by
  have hplace : s.place 0xFF50 = .io Config.overlayOffset := (place_eq_overlay_iff s _).mpr rfl
  exact write_of_not_xram v (hplace ▸ Place.noConfusion)

/-- With the latch set the cartridge answers the overlay window (20_memory.md R60). -/
theorem read_overlay_window {s : State} (h : s.bootDisabled = true) {a : Word} (ha : a.toNat ≤ 0x00FF) :
    s.read a = s.launch.cartRom.get a.toNat := by
  have hplace : s.place a = .rom a.toNat := by
    rw [State.place, placeOf_eq, if_neg (by simp [h]), if_pos (by omega)]
  rw [State.read, hplace, State.readPlace]

/-- Settles O45: the first write sets the latch, no later one clears it, and the latch routes the window. -/
theorem overlayHandOver : Obligations.OverlayHandOver := by
  unfold Obligations.OverlayHandOver
  intro s v w hs hv
  have ht : (s.store 0xFF50 v).bootDisabled = true := by
    rw [bootDisabled_store, decide_eq_true ⟨rfl, hv⟩, Bool.or_true]
  have hu : ((s.store 0xFF50 v).store 0xFF50 w).bootDisabled = true := bootDisabled_store_of_set ht _ _
  refine ⟨_, _, write_overlay s v, ht, read_store_overlay hs v, write_overlay _ w,
    read_store_overlay (inv_store hs _ _) w, fun a ha => ⟨?_, ?_⟩⟩
  · rw [read_overlay_window ht ha, State.store_launch]
  · rw [read_overlay_window hu ha, State.store_launch, State.store_launch]

/-- 0xFF50 shares its byte with no other address. -/
theorem aliases_overlay {wramSize : WramSize} {b : Word} (h : aliases wramSize 0xFF50 b) : b = 0xFF50 := by
  obtain rfl | ⟨-, hecho, -⟩ := h
  · rfl
  · exact absurd hecho (by decide)

/-- One instruction stores to no address twice. -/
theorem StoreShape.nodup {addrs : List Word} (h : StoreShape addrs) : addrs.Nodup := by
  obtain rfl | ⟨a, rfl⟩ | ⟨a, rfl⟩ := h
  · exact List.nodup_nil
  · exact List.nodup_singleton a
  · simp

/-- Stores to different addresses that set the latch leave a nonzero byte at 0xFF50: the store that sets it writes one there, and
no later one goes to that address. -/
theorem Stores.read_overlay_of_latch_set {ws : List (Word × Byte)} {s t : State} (h : Stores ws s (.next t)) (hs : s.Inv)
    (hnodup : (ws.map Prod.fst).Nodup) (hclear : s.bootDisabled = false) (hset : t.bootDisabled = true) :
    t.read 0xFF50 ≠ 0 := by
  induction ws generalizing s with
  | nil =>
    obtain ⟨u, hu, ⟨-, -, -, -, -, -, hlatch, -⟩, -⟩ := h
    cases hu
    rw [hlatch, hclear] at hset
    cases hset
  | cons w ws ih =>
    obtain ⟨b, v⟩ := w
    obtain ⟨-, g, hraise⟩ | ⟨-, hrest⟩ := h
    · exact absurd hraise.symm (raise_ne_next _ _ _)
    · rw [List.map_cons, List.nodup_cons] at hnodup
      obtain ⟨hb, hnodup⟩ := hnodup
      cases hlatch : (s.store b v).bootDisabled with
      | false => exact ih hrest (inv_store hs b v) hnodup hlatch
      | true =>
        rw [bootDisabled_store, hclear, Bool.false_or, decide_eq_true_eq] at hlatch
        obtain ⟨rfl, hv⟩ := hlatch
        have hlater : ∀ c ∈ ws.map Prod.fst, ¬ aliases (s.store 0xFF50 v).launch.wramSize 0xFF50 c :=
          fun c hc halias => hb (aliases_overlay halias ▸ hc)
        rw [hrest.read_of_not_aliases (inv_store hs _ v) hlater (.inl (by decide)), read_store_overlay hs]
        exact hv

/-- Settles O49: stores never clear the latch, and the one that sets it is the instruction's last to 0xFF50. -/
theorem overlayLatchIsOneWay : Obligations.OverlayLatchIsOneWay := by
  unfold Obligations.OverlayLatchIsOneWay
  intro i s t hs hexec
  obtain ⟨op, hraise⟩ | ⟨ws, hstores, hws⟩ := exec_effect i s
  · exact absurd (hraise.symm.trans hexec) (raise_ne_next _ _ _)
  · rw [hexec] at hstores
    exact ⟨hstores.bootDisabled_of_set, hstores.read_overlay_of_latch_set hs (hws ▸ (storesTo_shape _ s).nodup)⟩

/-! ### Bits 3 to 0 of `F` -/

/-- A next state, where `r` answers one, has the low four bits of `f` in `F`. -/
def KeepsLowFlags (f : Byte) (r : Res) : Prop := ∀ t, r = .next t → t.f &&& 0x0F = f &&& 0x0F

theorem KeepsLowFlags.next {f : Byte} {t : State} (h : t.f &&& 0x0F = f &&& 0x0F) : KeepsLowFlags f (.next t) := by
  rintro _ ⟨⟩
  exact h

theorem KeepsLowFlags.fault {f : Byte} {w : Fault} : KeepsLowFlags f (.fault w) := by
  rintro _ ⟨⟩

theorem KeepsLowFlags.write {f : Byte} {s : State} {a : Word} {v : Byte} (h : s.f &&& 0x0F = f &&& 0x0F) :
    KeepsLowFlags f (write a v s) := by
  intro t ht
  obtain ⟨-, rfl⟩ := write_eq_next.mp ht
  rwa [State.store_f]

theorem KeepsLowFlags.andThen {f : Byte} {r : Res} {k : State → Res} (hr : KeepsLowFlags f r)
    (hk : ∀ s, KeepsLowFlags s.f (k s)) : KeepsLowFlags f (andThen r k) := by
  intro t ht
  obtain ⟨s, hs, ht⟩ := andThen_eq_next.mp ht
  exact (hk s t ht).trans (hr s hs)

theorem KeepsLowFlags.ite {f : Byte} {b : Bool} {r q : Res} (hr : KeepsLowFlags f r) (hq : KeepsLowFlags f q) :
    KeepsLowFlags f (if b then r else q) := by
  cases b
  · exact hq
  · exact hr

theorem KeepsLowFlags.push16 {v : Word} {s : State} : KeepsLowFlags s.f (push16 v s) :=
  .andThen (.write rfl) fun _ => .andThen (.write rfl) fun _ => .next rfl

theorem KeepsLowFlags.writeR8 {x : R8} {v : Byte} {s : State} : KeepsLowFlags s.f (writeR8 x v s) := by
  cases x with
  | reg r => exact .next (by rw [State.setReg_f])
  | atHL => exact .write rfl

theorem decimalAdjust_keeps_low_flags (s : State) : (decimalAdjust s).f &&& 0x0F = s.f &&& 0x0F := by
  unfold decimalAdjust
  split <;> exact packFlags_and ..

/-- No flag assignment writes bits 3 to 0 of `F`, and nothing but `POP AF` writes `F` otherwise (10_state.md R26). -/
theorem exec_keeps_low_flags_of_ne {i : Instr} (hprefix : i ≠ .prefixCB) (hpop : i ≠ .popAF) (s : State) :
    KeepsLowFlags s.f (exec i s) := by
  cases i
  case prefixCB => exact absurd rfl hprefix
  case popAF => exact absurd rfl hpop
  case halt | stop | undefinedD3 | undefinedDB | undefinedDD | undefinedE3 | undefinedE4 | undefinedEB | undefinedEC |
      undefinedED | undefinedF4 | undefinedFC | undefinedFD => exact .fault
  case ldAtHL_B | ldAtHL_C | ldAtHL_D | ldAtHL_E | ldAtHL_H | ldAtHL_L | ldAtHL_A | ldAtHL_n8 | ldAtBC_A | ldAtDE_A | ldA16_A |
      ldhA8_A | ldAtC_A | ldAtHLInc_A | ldAtHLDec_A => exact .andThen (.write rfl) fun _ => .next rfl
  case incAtHL | decAtHL => exact .andThen (.write (packFlags_and ..)) fun _ => .next rfl
  case ldA16_SP => exact .andThen (.andThen (.write rfl) fun _ => .write rfl) fun _ => .next rfl
  case pushBC | pushDE | pushHL | pushAF | call | rst00 | rst08 | rst10 | rst18 | rst20 | rst28 | rst30 | rst38 =>
    exact .andThen .push16 fun _ => .next rfl
  case callNZ | callZ | callNC | callC => exact .ite (.andThen .push16 fun _ => .next rfl) (.next rfl)
  case retNZ | retZ | retNC | retC | jpNZ | jpZ | jpNC | jpC | jrNZ | jrZ | jrNC | jrC => exact .ite (.next rfl) (.next rfl)
  case rlc | rrc | rl | rr | sla | sra | swap | srl => exact .andThen .writeR8 fun _ => .next (packFlags_and ..)
  case res | set => exact .andThen .writeR8 fun _ => .next rfl
  case incB | incC | incD | incE | incH | incL | incA | decB | decC | decD | decE | decH | decL | decA |
      addA_B | addA_C | addA_D | addA_E | addA_H | addA_L | addA_AtHL | addA_A | addA_n8 |
      adcA_B | adcA_C | adcA_D | adcA_E | adcA_H | adcA_L | adcA_AtHL | adcA_A | adcA_n8 |
      subB | subC | subD | subE | subH | subL | subAtHL | subA | sub_n8 |
      sbcA_B | sbcA_C | sbcA_D | sbcA_E | sbcA_H | sbcA_L | sbcA_AtHL | sbcA_A | sbcA_n8 |
      andB | andC | andD | andE | andH | andL | andAtHL | andA | and_n8 |
      xorB | xorC | xorD | xorE | xorH | xorL | xorAtHL | xorA | xor_n8 |
      orB | orC | orD | orE | orH | orL | orAtHL | orA | or_n8 |
      cpB | cpC | cpD | cpE | cpH | cpL | cpAtHL | cpA | cp_n8 |
      cpl | scf | ccf | rlca | rrca | rla | rra | bit |
      addHL_BC | addHL_DE | addHL_HL | addHL_SP | addSP_e8 | ldHL_SPe8 => exact .next (packFlags_and ..)
  case daa => exact .next (decimalAdjust_keeps_low_flags s)
  all_goals exact .next rfl

theorem decodeSecondary_ne_popAF (op2 : Byte) : decodeSecondary op2 ≠ .popAF := by
  revert op2; decide

/-- Settles O51: the flag assignments keep bits 3 to 0, `POP AF` writes the whole byte, and what 0xCB selects is not `POP AF`. -/
theorem lowNibbleOfFlagsIsStorage : Obligations.LowNibbleOfFlagsIsStorage := by
  unfold Obligations.LowNibbleOfFlagsIsStorage
  refine ⟨fun i s t hpop hexec => ?_, fun s t hexec => ?_⟩
  · by_cases hprefix : i = .prefixCB
    · subst hprefix
      rw [exec_prefixCB] at hexec
      exact KeepsLowFlags.ite
        (exec_keeps_low_flags_of_ne (decodeSecondary_ne_prefixCB _) (decodeSecondary_ne_popAF _) s) .fault t hexec
    · exact exec_keeps_low_flags_of_ne hprefix hpop s t hexec
  · cases hexec
    exact lo_word ..

/-! ### `ime` -/

/-- Where `r` answers a next state, `q` answers the same one with `b` for `ime`. -/
def SameButIme (b : Bool) (r q : Res) : Prop := ∀ t, r = .next t → q = .next { t with ime := b }

theorem SameButIme.next {b : Bool} {t : State} : SameButIme b (.next t) (.next { t with ime := b }) := by
  rintro _ ⟨⟩
  rfl

theorem SameButIme.fault {b : Bool} {w : Fault} {q : Res} : SameButIme b (.fault w) q := by
  rintro _ ⟨⟩

theorem store_with_ime (s : State) (a : Word) (v : Byte) (b : Bool) :
    ({ s with ime := b } : State).store a v = { s.store a v with ime := b } := by
  unfold State.store State.place
  simp only
  cases placeOf s.launch.wramSize s.bootDisabled a <;> rfl

/-- The byte write does not read `ime`. -/
theorem SameButIme.write {b : Bool} {a : Word} {v : Byte} {s : State} :
    SameButIme b (write a v s) (write a v { s with ime := b }) := by
  intro t ht
  obtain ⟨hplace, rfl⟩ := write_eq_next.mp ht
  exact write_eq_next.mpr ⟨hplace, (store_with_ime s a v b).symm⟩

theorem SameButIme.andThen {b : Bool} {r q : Res} {k l : State → Res} (hr : SameButIme b r q)
    (hk : ∀ s : State, SameButIme b (k s) (l { s with ime := b })) : SameButIme b (andThen r k) (andThen q l) := by
  intro t ht
  obtain ⟨s, hs, ht⟩ := andThen_eq_next.mp ht
  exact andThen_eq_next.mpr ⟨_, hr s hs, hk s t ht⟩

theorem SameButIme.ite {b c : Bool} {r r' q q' : Res} (hr : SameButIme b r r') (hq : SameButIme b q q') :
    SameButIme b (if c then r else q) (if c then r' else q') := by
  cases c
  · exact hq
  · exact hr

theorem SameButIme.push16 {b : Bool} {v : Word} {s : State} :
    SameButIme b (push16 v s) (push16 v { s with ime := b }) :=
  .andThen .write fun _ => .andThen .write fun _ => .next

theorem decimalAdjust_with_ime (s : State) (b : Bool) :
    decimalAdjust { s with ime := b } = { decimalAdjust s with ime := b } := by
  unfold decimalAdjust State.flagN
  simp only
  split <;> rfl

/-- No instruction but `DI`, `EI` and `RETI` reads or writes `ime` (10_state.md R33). -/
theorem exec_with_ime_of_ne {i : Instr} (hprefix : i ≠ .prefixCB) (hdi : i ≠ .di) (hei : i ≠ .ei) (hreti : i ≠ .reti)
    (s : State) (b : Bool) : SameButIme b (exec i s) (exec i { s with ime := b }) := by
  cases i
  case prefixCB => exact absurd rfl hprefix
  case di => exact absurd rfl hdi
  case ei => exact absurd rfl hei
  case reti => exact absurd rfl hreti
  case halt | stop | undefinedD3 | undefinedDB | undefinedDD | undefinedE3 | undefinedE4 | undefinedEB | undefinedEC |
      undefinedED | undefinedF4 | undefinedFC | undefinedFD => exact .fault
  case ldAtHL_B | ldAtHL_C | ldAtHL_D | ldAtHL_E | ldAtHL_H | ldAtHL_L | ldAtHL_A | ldAtHL_n8 | ldAtBC_A | ldAtDE_A | ldA16_A |
      ldhA8_A | ldAtC_A | ldAtHLInc_A | ldAtHLDec_A => exact .andThen .write fun _ => .next
  case incAtHL => exact .andThen (.write (s := s.incFlags _)) fun _ => .next
  case decAtHL => exact .andThen (.write (s := s.decFlags _)) fun _ => .next
  case ldA16_SP => exact .andThen (.andThen .write fun _ => .write) fun _ => .next
  case pushBC | pushDE | pushHL | pushAF | call | rst00 | rst08 | rst10 | rst18 | rst20 | rst28 | rst30 | rst38 =>
    exact .andThen .push16 fun _ => .next
  case callNZ | callZ | callNC | callC => exact .ite (.andThen .push16 fun _ => .next) .next
  case retNZ | retZ | retNC | retC | jpNZ | jpZ | jpNC | jpC | jrNZ | jrZ | jrNC | jrC => exact .ite .next .next
  case rlc x | rrc x | rl x | rr x | sla x | sra x | swap x | srl x | res _ x | set _ x =>
    cases x with
    | reg r => cases r <;> exact .next
    | atHL => exact .andThen .write fun _ => .next
  case daa =>
    rintro _ ⟨⟩
    exact congrArg (done 1 4) (decimalAdjust_with_ime s b)
  all_goals exact .next

/-- What the secondary table assigns neither writes nor reads `ime`. -/
theorem decodeSecondary_ne_ime_writer (op2 : Byte) :
    decodeSecondary op2 ≠ .di ∧ decodeSecondary op2 ≠ .ei ∧ decodeSecondary op2 ≠ .reti := by
  revert op2; decide

theorem exec_with_ime {i : Instr} (hdi : i ≠ .di) (hei : i ≠ .ei) (hreti : i ≠ .reti) (s : State) (b : Bool) :
    SameButIme b (exec i s) (exec i { s with ime := b }) := by
  by_cases hprefix : i = .prefixCB
  · subst hprefix
    obtain ⟨hdi, hei, hreti⟩ := decodeSecondary_ne_ime_writer (s.read (s.pc + 1))
    rw [exec_prefixCB, exec_prefixCB]
    exact .ite (exec_with_ime_of_ne (decodeSecondary_ne_prefixCB _) hdi hei hreti s b) .fault
  · exact exec_with_ime_of_ne hprefix hdi hei hreti s b

/-- Settles O52: all but three instructions carry `ime` through unread, so they leave it, and they answer the same next state from
any value of it; `DI`, `EI` and `RETI` overwrite it. -/
theorem imeIsWrittenByThreeAndReadByNone : Obligations.ImeIsWrittenByThreeAndReadByNone := by
  unfold Obligations.ImeIsWrittenByThreeAndReadByNone
  refine ⟨fun i s t hdi hei hreti hexec => ?_, fun i s t b hexec => ?_⟩
  · have hsame : exec i s = .next { t with ime := s.ime } := exec_with_ime hdi hei hreti s s.ime t hexec
    have hime := congrArg State.ime (Host.Outcome.next.inj (hexec.symm.trans hsame))
    exact hime
  · by_cases hwriter : i = .di ∨ i = .ei ∨ i = .reti
    · obtain rfl | rfl | rfl := hwriter <;> cases hexec <;> exact ⟨_, rfl, rfl⟩
    · rw [not_or, not_or] at hwriter
      obtain ⟨hdi, hei, hreti⟩ := hwriter
      exact ⟨_, exec_with_ime hdi hei hreti s b t hexec, rfl⟩

/-! ### Registers -/

theorem reg_setReg (s : State) (r q : Reg8) (v : Byte) : (s.setReg r v).reg q = if q = r then v else s.reg q := by
  cases r <;> cases q <;> rfl

theorem pair_setPair (s : State) (p q : Pair) (w : Word) : (s.setPair p w).pair q = if q = p then w else s.pair q := by
  cases p <;> cases q
  case bc.bc | de.de | hl.hl => exact word_hi_lo w
  all_goals rfl

theorem stackPair_setStackPair (s : State) (p q : StackPair) (w : Word) :
    (s.setStackPair p w).stackPair q = if q = p then w else s.stackPair q := by
  cases p <;> cases q
  case bc.bc | de.de | hl.hl | af.af => exact word_hi_lo w
  all_goals rfl

theorem word_eq_withHi (h l v : Byte) : word v l = withHi (word h l) v := by rw [withHi, lo_word]
theorem word_eq_withLo (h l v : Byte) : word h v = withLo (word h l) v := by rw [withLo, hi_word]

/-- Settles O8: the halves are stored and the pairs computed from them, so a half written is a half of the pair replaced. -/
theorem pairsAndHalvesAreOneStorage : Obligations.PairsAndHalvesAreOneStorage := by
  unfold Obligations.PairsAndHalvesAreOneStorage
  intro s v w
  exact ⟨⟨word_eq_withHi .., word_eq_withLo ..⟩, ⟨word_eq_withHi .., word_eq_withLo ..⟩,
    ⟨word_eq_withHi .., word_eq_withLo ..⟩, ⟨word_eq_withHi .., word_eq_withLo ..⟩,
    fun r q => reg_setReg s r q v, fun p q => pair_setPair s p q w, fun p q => stackPair_setStackPair s p q w,
    ⟨rfl, rfl⟩, ⟨rfl, rfl⟩, ⟨rfl, rfl⟩, ⟨rfl, rfl⟩⟩

/-! ### Reset and construction -/

theorem word_zero : word 0 0 = 0 := by decide

/-- Settles O58, by evaluation of the one state. -/
theorem resetValues : Obligations.ResetValues := by
  unfold Obligations.ResetValues
  decide

/-- A store cut to a size is in canonical form and within that size. -/
theorem storeOf_wf_below (size : Nat) (bytes : List Byte) :
    (storeOf size bytes).wf = true ∧ (storeOf size bytes).below size = true := by
  have hlength : 0 + (bytes.take size).length ≤ size := by simp
  exact ⟨Memory.wf_ofBytes _, Memory.below_mono (Memory.below_ofBytesFrom _ 0) hlength⟩

theorem ofBytes_wf_below {bytes : List Byte} {size : Nat} (h : bytes.length ≤ size) :
    (Memory.ofBytes bytes).wf = true ∧ (Memory.ofBytes bytes).below size = true := by
  rw [← List.take_of_length_le h]
  exact storeOf_wf_below size bytes

/-- What is built is the machine around an accepted fixed-ROM image (70_reset_and_hazards.md R350, 20_memory.md R71). -/
theorem construct_eq_ok {p : LaunchParams} {s : State} (h : construct p = .ok s) :
    ∃ image : List Byte, image.length ≤ Config.cartSize ∧ s = p.machine (Memory.ofBytes image) := by
  unfold construct at h
  cases hcart : p.cartridge with
  | absent => rw [hcart] at h; cases h
  | bankSwitched capability => rw [hcart] at h; cases h
  | fixedRom image =>
    simp only [hcart, tryFromBytes] at h
    by_cases hlong : image.length > Config.cartSize
    · rw [if_pos hlong] at h; cases h
    · rw [if_neg hlong] at h
      cases h
      exact ⟨image, Nat.le_of_not_gt hlong, rfl⟩

/-- The overlay disable register is zero whatever `INIT_MEM` says (10_state.md R41). -/
theorem machine_io_overlay (p : LaunchParams) (cartRom : Memory) : (p.machine cartRom).io.get Config.overlayOffset = 0 := by
  obtain ⟨hio, -⟩ := storeOf_wf_below Config.ioSize p.initMem.io
  exact (Memory.get_set hio ..).trans (if_pos rfl)

theorem machine_inv (p : LaunchParams) {image : List Byte} (h : image.length ≤ Config.cartSize) :
    (p.machine (Memory.ofBytes image)).Inv := by
  have hboot : p.bootRom.toList.length ≤ Config.bootSize := Nat.le_of_eq p.bootRom.length_toList
  obtain ⟨hio, hio_below⟩ := storeOf_wf_below Config.ioSize p.initMem.io
  constructor
  · rw [State.storesWf_iff]
    exact ⟨storeOf_wf_below .., storeOf_wf_below .., storeOf_wf_below ..,
      ⟨Memory.wf_set hio .., Memory.below_set hio_below (by decide) _⟩, storeOf_wf_below ..,
      ofBytes_wf_below hboot, ofBytes_wf_below h⟩
  · rw [State.overlayConsistent_iff]
    exact fun hne => absurd (machine_io_overlay ..) hne

/-- While the overlay is on, `BOOT_ROM` answers 0x0000-0x00FF (20_memory.md R59). -/
theorem machine_read_boot (p : LaunchParams) (cartRom : Memory) (k : Fin 256) :
    (p.machine cartRom).read (BitVec.ofNat 16 k.val) = p.bootRom[k] := by
  have hk : (BitVec.ofNat 16 k.val).toNat = k.val := by
    rw [BitVec.toNat_ofNat]
    omega
  have hplace : (p.machine cartRom).place (BitVec.ofNat 16 k.val) = .boot k.val := by
    rw [State.place, placeOf_eq, if_pos ⟨by omega, rfl⟩, hk]
  rw [State.read, hplace]
  calc (Memory.ofBytes p.bootRom.toList).get k.val
    _ = p.bootRom.toList.getD k.val Memory.unlisted := Memory.get_ofBytes ..
    _ = p.bootRom[k] := by simp

/-- Settles O56: construction puts the launch parameters into `State.reset` and nothing else. -/
theorem constructedMachineIsReset : Obligations.ConstructedMachineIsReset := by
  unfold Obligations.ConstructedMachineIsReset
  intro p s hs
  obtain ⟨image, himage, rfl⟩ := construct_eq_ok hs
  exact ⟨word_zero, word_zero, word_zero, word_zero, rfl, rfl, rfl, rfl, machine_io_overlay .., rfl, rfl, machine_inv p himage,
    machine_read_boot p _ 0, machine_read_boot p _⟩

end Sys2Proof.Machine
end

section
/-! PROOFS. The memory (20_memory.md): reads and writes by the address map (O41, O42), a byte and a word read back (O43, O44), and
the cartridge ROM (O50, O57). -/

open Sys2Proof.Stated

namespace Sys2Proof.Machine

/-! ### The address map -/

/-- Settles O41: the line an address falls in gives its place, and each place reads one store or 0xFF. -/
theorem readFollowsAddressMap : Obligations.ReadFollowsAddressMap := by
  unfold Obligations.ReadFollowsAddressMap
  intro s a
  rw [State.read, State.place, placeOf_eq]
  simp only [apply_ite s.readPlace]
  rfl

/-- What the byte write does where its address has a given place (20_memory.md R53). -/
def State.writePlace (s : State) (a : Word) (v : Byte) : Place → Res
  | .xram => memoryFault a v s
  | p => .next (s.storePlace p v)

theorem write_eq_writePlace (a : Word) (v : Byte) (s : State) : write a v s = s.writePlace a v (s.place a) := rfl

theorem write_of_not_absent {a : Word} (h : ¬ absent a) (v : Byte) (s : State) : write a v s = .next (s.store a v) :=
  write_of_not_xram v (mt (place_eq_xram_iff s a).mp h)

/-- The condition on which a write sets the latch, by address and by I/O offset (20_memory.md R68). -/
theorem decide_sets_latch (a : Word) (v : Byte) :
    decide (a = 0xFF50 ∧ v ≠ 0) = (a.toNat - 0xFF00 == Config.overlayOffset && v != 0) := by
  have haddr : (0xFF50 : Word).toNat = 0xFF50 := rfl
  have hoffset : a = 0xFF50 ↔ a.toNat - 0xFF00 = Config.overlayOffset := by
    rw [Config.overlayOffset, ← BitVec.toNat_inj]
    omega
  rw [Bool.decide_and, decide_not, decide_eq_decide.mpr hoffset]
  rfl

/-- Settles O42: below 0x8000 the place is the boot image's or the cartridge's, and either drops the byte; above, each line of the
map is a place that takes the byte, drops it, or raises. -/
theorem writeFollowsAddressMap : Obligations.WriteFollowsAddressMap := by
  unfold Obligations.WriteFollowsAddressMap
  intro s a v
  refine ⟨fun h => write_of_not_absent h v s, ?_⟩
  rw [write_eq_writePlace, State.place, placeOf_eq]
  by_cases hrom : a.toNat ≤ 0x7FFF
  · rw [if_pos hrom, if_pos hrom]
    split <;> rfl
  · have hboot : ¬ (a.toNat ≤ 0x00FF ∧ s.bootDisabled = false) := by omega
    rw [if_neg hboot, if_neg hrom, if_neg hrom, decide_sets_latch]
    simp only [apply_ite (s.writePlace a v)]
    rfl

/-! ### Reading back -/

theorem place_ne_xram_of_writable {a : Word} (h : writable a) (s : State) : s.place a ≠ .xram := by
  obtain ⟨-, habsent, -⟩ := h
  exact mt (place_eq_xram_iff s a).mp habsent

theorem past_overlay_of_writable {a : Word} (h : writable a) : 0x00FF < a.toNat := by
  obtain ⟨hram, -⟩ := h
  omega

/-- Addresses that select one byte have one place (20_memory.md R64). -/
theorem place_eq_of_aliases {s : State} {a b : Word} (h : aliases s.launch.wramSize a b) : s.place b = s.place a := by
  obtain rfl | ⟨ha, ha', hb, hb', hindex⟩ := h
  · rfl
  · exact ((place_eq_wram_iff s b _).mpr ⟨hb, hb', rfl⟩).trans ((place_eq_wram_iff s a _).mpr ⟨ha, ha', hindex.symm⟩).symm

/-- A byte stored reads back through every address that selects it (20_memory.md R85). -/
theorem read_store_of_aliases {s : State} (hs : s.Inv) {a b : Word} (v : Byte) (ha : writable a)
    (hab : aliases s.launch.wramSize a b) : (s.store a v).read b = v := by
  have hplace : s.place b = s.place a := place_eq_of_aliases hab
  have hstores : (s.place a).stores = true := (place_stores_iff s a).mpr ha
  have hb : writable b := (place_stores_iff s b).mp (hplace ▸ hstores)
  rw [read_store hs.1 a b v (.inl (past_overlay_of_writable hb)), if_pos ⟨hplace, hstores⟩]

/-- Settles O43: a writable address is outside the window that raises, and the byte stored is that of every alias. -/
theorem readAfterWriteThroughAliases : Obligations.ReadAfterWriteThroughAliases := by
  unfold Obligations.ReadAfterWriteThroughAliases
  intro s a b v hs ha hab
  exact ⟨_, write_of_not_xram v (place_ne_xram_of_writable ha s), read_store_of_aliases hs v ha hab⟩

/-- The two addresses of a word never select one byte. -/
theorem not_aliases_succ (wramSize : WramSize) (a : Word) : ¬ aliases wramSize (a + 1) a := by
  rintro (heq | ⟨hsucc, hsucc', ha, ha', hindex⟩)
  · simp at heq
  · have htoNat : (a + 1).toNat = a.toNat + 1 := BitVec.toNat_add_of_lt (by simp; omega)
    rw [htoNat] at hindex
    cases wramSize <;> simp only [WramSize.bytes] at hindex <;> omega

/-- A word stored high byte first reads back byte by byte: the low byte goes elsewhere and leaves the high byte in place. -/
theorem read_store_word {s : State} (hs : s.Inv) {a : Word} (h l : Byte) (ha : writable a) (hsucc : writable (a + 1)) :
    ((s.store (a + 1) h).store a l).read a = l ∧ ((s.store (a + 1) h).store a l).read (a + 1) = h := by
  have hinv : (s.store (a + 1) h).Inv := inv_store hs _ _
  refine ⟨read_store_of_aliases hinv l ha (.inl rfl), ?_⟩
  calc ((s.store (a + 1) h).store a l).read (a + 1)
    _ = (s.store (a + 1) h).read (a + 1) :=
      read_store_of_not_aliases hinv.1 l (not_aliases_succ _ a) (.inl (past_overlay_of_writable hsucc))
    _ = h := read_store_of_aliases hs h hsucc (.inl rfl)

/-- Settles O44: both stores are performed, and the two bytes read make the word. -/
theorem wordWriteReadsBack : Obligations.WordWriteReadsBack := by
  unfold Obligations.WordWriteReadsBack
  intro s a v hs ha hsucc
  obtain ⟨hlow, hhigh⟩ := read_store_word hs (hi v) (lo v) ha hsucc
  refine ⟨_, writeWord_eq_next.mpr ⟨place_ne_xram_of_writable hsucc s, place_ne_xram_of_writable ha s, rfl⟩, ?_, hlow, hhigh⟩
  rw [State.readWord, hlow, hhigh, word_hi_lo]

/-! ### The cartridge ROM -/

/-- Past the overlay window the cartridge answers whatever the latch says (20_memory.md R57). -/
theorem read_cartridge (s : State) {a : Word} (h : 0x0100 ≤ a.toNat) (h' : a.toNat ≤ 0x7FFF) :
    s.read a = s.launch.cartRom.get a.toNat := by
  have hplace : s.place a = .rom a.toNat := by
    rw [State.place, placeOf_eq, if_neg (by omega), if_pos h']
  rw [State.read, hplace, State.readPlace]

/-- No instruction changes the launch parameters (70_reset_and_hazards.md R353). -/
theorem exec_keeps_launch {i : Instr} {s t : State} (h : exec i s = .next t) : t.launch = s.launch :=
  exec_keeps (fun u => u.launch = s.launch) (fun u a v hu => (State.store_launch u a v).trans hu)
    (fun _ _ hu ⟨_, _, _, _, _, _, _, hlaunch, _⟩ => hlaunch.trans hu) h rfl

/-- Settles O50: the cartridge image is a launch parameter, and it alone answers 0x0100-0x7FFF. -/
theorem romNeverChanges : Obligations.RomNeverChanges := by
  unfold Obligations.RomNeverChanges
  intro i s t hexec
  have hlaunch : t.launch = s.launch := exec_keeps_launch hexec
  exact ⟨hlaunch, fun a h h' => by rw [read_cartridge t h h', read_cartridge s h h', hlaunch]⟩

/-- An image the loader rejects builds no machine (60_exceptions.md R322). -/
theorem construct_of_too_long (p : LaunchParams) {image : List Byte} (h : Config.cartSize < image.length) :
    construct { p with cartridge := .fixedRom image } = .error .invalidCartridge := by
  simp only [construct, tryFromBytes, if_pos h]

/-- An image that fits is the cartridge ROM of the machine built (70_reset_and_hazards.md R350). -/
theorem construct_of_fits (p : LaunchParams) {image : List Byte} (h : image.length ≤ Config.cartSize) :
    construct { p with cartridge := .fixedRom image } =
      .ok (LaunchParams.machine { p with cartridge := .fixedRom image } (Memory.ofBytes image)) := by
  simp only [construct, tryFromBytes, if_neg (Nat.not_lt.mpr h)]

/-- Settles O57: what is built holds the image as a store, which reads zero past the image's end. -/
theorem cartridgeImageIsCheckedAndPadded : Obligations.CartridgeImageIsCheckedAndPadded := by
  unfold Obligations.CartridgeImageIsCheckedAndPadded
  intro p image
  refine ⟨construct_of_too_long p, fun h => ⟨_, construct_of_fits p h, Memory.get_ofBytes image, fun a ha ha' => ?_⟩⟩
  exact (read_cartridge _ ha ha').trans (Memory.get_ofBytes image _)

end Sys2Proof.Machine
end

section
/-! PROOFS. The encoder and the decoder are each other's inverse (O2, O3), and the sample words of the opcode maps (O1). -/

namespace Sys2Proof

/-! ### The fields of an opcode and the value `x*64 + y*8 + z` (30_encoding.md R102, R111) -/

theorem secondaryByte_fields (op : Byte) : secondaryByte (fieldX op) (fieldY op) (fieldZ op) = op := by
  revert op; decide

@[simp] theorem fieldX_secondaryByte (x : Fin 4) (y z : Fin 8) : fieldX (secondaryByte x y z) = x := by
  revert x y z; decide

@[simp] theorem fieldY_secondaryByte (x : Fin 4) (y z : Fin 8) : fieldY (secondaryByte x y z) = y := by
  revert x y z; decide

@[simp] theorem fieldZ_secondaryByte (x : Fin 4) (y z : Fin 8) : fieldZ (secondaryByte x y z) = z := by
  revert x y z; decide

@[simp] theorem code_r8OfCode (k : Fin 8) : (r8OfCode k).code = k := by
  revert k; decide

@[simp] theorem r8OfCode_code (r : R8) : r8OfCode r.code = r := by
  rcases r with r | _
  · cases r <;> rfl
  · rfl

/-! ### The secondary table (R111) -/

theorem decodeSecondary_rot (y : Fin 8) (r : R8) : decodeSecondary (secondaryByte 0 y r.code) = rotInstr y r := by
  simp [decodeSecondary]

theorem decodeSecondary_bit (b : Fin 8) (r : R8) : decodeSecondary (secondaryByte 1 b r.code) = .bit b r := by
  simp [decodeSecondary]

theorem decodeSecondary_res (b : Fin 8) (r : R8) : decodeSecondary (secondaryByte 2 b r.code) = .res b r := by
  simp [decodeSecondary]

theorem decodeSecondary_set (b : Fin 8) (r : R8) : decodeSecondary (secondaryByte 3 b r.code) = .set b r := by
  simp [decodeSecondary]

theorem encode_rotInstr (y : Fin 8) (r : R8) : encode (rotInstr y r) = [0xCB, secondaryByte 0 y r.code] := by
  fin_cases y <;> rfl

theorem encode_decodeSecondary_fields (x : Fin 4) (y : Fin 8) (r : R8) :
    encode (decodeSecondary (secondaryByte x y r.code)) = [0xCB, secondaryByte x y r.code] := by
  match x with
  | 0 => exact (congrArg encode (decodeSecondary_rot y r)).trans (encode_rotInstr y r)
  | 1 => exact congrArg encode (decodeSecondary_bit y r)
  | 2 => exact congrArg encode (decodeSecondary_res y r)
  | 3 => exact congrArg encode (decodeSecondary_set y r)

/-- Every secondary opcode is the second byte of the instruction it decodes to. -/
theorem encode_decodeSecondary (op2 : Byte) : encode (decodeSecondary op2) = [0xCB, op2] := by
  have h := encode_decodeSecondary_fields (fieldX op2) (fieldY op2) (r8OfCode (fieldZ op2))
  rwa [code_r8OfCode, secondaryByte_fields] at h

/-! ### Decoding an encoding, by format (R112) -/

/-- Format `OP_N16`: the two operand bytes, low byte first, make the operand word again (R103). -/
theorem decode_encode_of_word {f : Word → Instr} {op : Byte} {w : Word} {rest : List Byte}
    (hencode : encode (f w) = [op, lo w, hi w]) (hlength : opcodeLength op = 3)
    (hdecode : decodeBytes op (lo w) (hi w) = f (word (hi w) (lo w))) :
    decode (encode (f w) ++ rest) = .ok (f w, rest) := by
  rw [word_hi_lo] at hdecode
  simp [hencode, decode, hlength, hdecode]

/-- Format `CB`: byte 1 alone selects the instruction. -/
theorem decode_encode_of_secondary {i : Instr} {op2 : Byte} {rest : List Byte}
    (hencode : encode i = [0xCB, op2]) (hdecode : decodeSecondary op2 = i) :
    decode (encode i ++ rest) = .ok (i, rest) := by
  rw [hencode, ← hdecode]
  rfl

/-- Settles O2, by constructor: word operands and secondary opcodes by their format's lemma, and where every operand is a
byte of the encoding the decoder computes the instruction. -/
theorem decodeOfEncodeIsIdentity : Obligations.DecodeOfEncodeIsIdentity := by
  unfold Obligations.DecodeOfEncodeIsIdentity
  intro i rest hwf
  cases i
  case prefixCB => cases hwf
  case ldBC_n16 | ldDE_n16 | ldHL_n16 | ldSP_n16 | ldA16_SP | ldA16_A | ldA_A16 |
      jp | jpNZ | jpZ | jpNC | jpC | call | callNZ | callZ | callNC | callC =>
    exact decode_encode_of_word rfl rfl rfl
  case rlc r | rrc r | rl r | rr r | sla r | sra r | swap r | srl r =>
    exact decode_encode_of_secondary rfl (decodeSecondary_rot _ r)
  case bit b r => exact decode_encode_of_secondary rfl (decodeSecondary_bit b r)
  case res b r => exact decode_encode_of_secondary rfl (decodeSecondary_res b r)
  case set b r => exact decode_encode_of_secondary rfl (decodeSecondary_set b r)
  all_goals rfl

/-! ### Encoding what three bytes decode to, by block of the primary map (R110) -/

/-- What the encoder puts behind byte 0 of an instruction decoded from `op`, `b1`, `b2`: a word operand is taken apart again. -/
def operandBytes (op b1 b2 : Byte) : List Byte :=
  if op ∈ threeByteOpcodes then [lo (word b2 b1), hi (word b2 b1)] else if op ∈ twoByteOpcodes then [b1] else []

theorem operandBytes_eq_take (op b1 b2 : Byte) : operandBytes op b1 b2 = [b1, b2].take (opcodeLength op - 1) := by
  unfold operandBytes opcodeLength
  split_ifs <;> simp

theorem encode_decodeBlock0 (y z : Fin 8) (b1 b2 : Byte) :
    encode (decodeBlock0 (secondaryByte 0 y z) b1 b2) =
      secondaryByte 0 y z :: operandBytes (secondaryByte 0 y z) b1 b2 := by
  fin_cases z <;> fin_cases y <;> rfl

theorem encode_ldInstr (y z : Fin 8) (b1 b2 : Byte) :
    encode (ldInstr (r8OfCode y) (r8OfCode z)) = secondaryByte 1 y z :: operandBytes (secondaryByte 1 y z) b1 b2 := by
  fin_cases y <;> fin_cases z <;> rfl

theorem encode_aluInstr (y z : Fin 8) (b1 b2 : Byte) :
    encode (aluInstr (aluOfCode y) (r8OfCode z)) = secondaryByte 2 y z :: operandBytes (secondaryByte 2 y z) b1 b2 := by
  fin_cases y <;> fin_cases z <;> rfl

theorem encode_decodeBlock3 (y z : Fin 8) (b1 b2 : Byte) :
    encode (decodeBlock3 (secondaryByte 3 y z) b1 b2) =
      secondaryByte 3 y z :: operandBytes (secondaryByte 3 y z) b1 b2 := by
  match z with
  | 3 =>
    match y with
    | 1 => exact encode_decodeSecondary b1
    | 0 | 2 | 3 | 4 | 5 | 6 | 7 => rfl
  | 0 | 1 | 2 | 4 | 5 | 6 | 7 => fin_cases y <;> rfl

theorem encode_decodeBytes_fields (x : Fin 4) (y z : Fin 8) (b1 b2 : Byte) :
    encode (decodeBytes (secondaryByte x y z) b1 b2) =
      secondaryByte x y z :: operandBytes (secondaryByte x y z) b1 b2 := by
  unfold decodeBytes
  rw [fieldX_secondaryByte, fieldY_secondaryByte, fieldZ_secondaryByte]
  match x with
  | 0 => exact encode_decodeBlock0 y z b1 b2
  | 1 => exact encode_ldInstr y z b1 b2
  | 2 => exact encode_aluInstr y z b1 b2
  | 3 => exact encode_decodeBlock3 y z b1 b2

/-- The instruction three bytes decode to is encoded by as many of them as byte 0 calls for. -/
theorem encode_decodeBytes (op b1 b2 : Byte) :
    encode (decodeBytes op b1 b2) = op :: [b1, b2].take (opcodeLength op - 1) := by
  have h := encode_decodeBytes_fields (fieldX op) (fieldY op) (fieldZ op) b1 b2
  rwa [secondaryByte_fields, operandBytes_eq_take] at h

/-! ### What decodes is well-formed (R115) -/

theorem wellFormed_of_ne_prefixCB {i : Instr} (h : i ≠ .prefixCB) : i.wellFormed = true := by
  cases i
  case prefixCB => exact absurd rfl h
  all_goals rfl

/-- Byte 0xCB calls for a second byte, so it is never decoded by itself. -/
theorem decodeBytes_ne_prefixCB (op b1 b2 : Byte) : decodeBytes op b1 b2 ≠ .prefixCB := by
  intro h
  have hencode := encode_decodeBytes op b1 b2
  rw [h] at hencode
  obtain ⟨rfl, htake⟩ := List.cons.inj hencode
  exact absurd htake (List.cons_ne_nil b1 []).symm

/-! ### A list that decodes -/

/-- A list decodes where it holds the bytes its first one calls for. -/
theorem decode_eq_ok {bytes rest : List Byte} {i : Instr} (h : decode bytes = .ok (i, rest)) :
    ∃ op tail, bytes = op :: tail ∧ opcodeLength op - 1 ≤ tail.length ∧
      i = decodeBytes op (tail.getD 0 0) (tail.getD 1 0) ∧ rest = tail.drop (opcodeLength op - 1) := by
  cases bytes with
  | nil => cases h
  | cons op tail =>
    simp only [decode] at h
    split_ifs at h with hshort
    cases h
    exact ⟨op, tail, rfl, by omega, rfl, rfl⟩

/-- Reading at most two bytes of a list that holds them, zero past its end, takes them from its head. -/
theorem take_getD_pair (tail : List Byte) {n : Nat} (hn : n ≤ 2) (h : n ≤ tail.length) :
    [tail.getD 0 0, tail.getD 1 0].take n = tail.take n := by
  match tail, n, hn, h with
  | _, 0, _, _ => rfl
  | _ :: _, 1, _, _ => rfl
  | _ :: _ :: _, 2, _, _ => rfl

/-- Settles O3: the instruction's bytes are the head of the list, and the rest is what stands behind them. -/
theorem encodeOfDecodeIsIdentity : Obligations.EncodeOfDecodeIsIdentity := by
  unfold Obligations.EncodeOfDecodeIsIdentity
  intro bytes rest i hdecode
  obtain ⟨op, tail, rfl, hlength, rfl, rfl⟩ := decode_eq_ok hdecode
  refine ⟨wellFormed_of_ne_prefixCB (decodeBytes_ne_prefixCB _ _ _), ?_⟩
  have hpair : opcodeLength op - 1 ≤ 2 := Nat.sub_le_sub_right (opcodeLength_le_three op) 1
  rw [encode_decodeBytes, take_getD_pair tail hpair hlength, List.cons_append, List.take_append_drop]

/-- Settles O1: the decoder computes each of the eighteen. -/
theorem sampleWordsDecode : Obligations.SampleWordsDecode := by
  unfold Obligations.SampleWordsDecode
  exact ⟨rfl, rfl, rfl, rfl, rfl, rfl, rfl, rfl, rfl, rfl, rfl, rfl, rfl, rfl, rfl, rfl, rfl, rfl⟩

end Sys2Proof
end

section
/-! PROOFS. The 8-bit loads (O9, O10, O12) and stores (O11, O13) of 40_load8.md. -/

open Sys2Proof.Stated

namespace Sys2Proof

/-! ### The encodings of `LD r8[y],r8[z]` and `LD r8[y],n8` (30_encoding.md R110) -/

/-- Block `x = 1` of the map, `HALT` at (HL),(HL) included. -/
theorem encode_ldInstr_operands (dst src : R8) : encode (ldInstr dst src) = [0b01#2 ++ code8 dst ++ code8 src] := by
  rw [← r8OfCode_code dst, ← r8OfCode_code src]
  generalize dst.code = y
  generalize src.code = z
  fin_cases y <;> fin_cases z <;> rfl

theorem encode_ldImmInstr (dst : R8) (n8 : Byte) : encode (ldImmInstr dst n8) = [0b00#2 ++ code8 dst ++ 0b110#3, n8] := by
  match dst with
  | .atHL => rfl
  | .reg r => cases r <;> rfl

end Sys2Proof

namespace Sys2Proof.Machine

/-! ### What each form executes -/

theorem exec_ldInstr_reg_reg (dst r : Reg8) (s : State) :
    exec (ldInstr (.reg dst) (.reg r)) s = loadReg dst (s.reg r) 1 4 s := by
  cases dst <;> cases r <;> rfl

theorem exec_ldInstr_reg_atHL (dst : Reg8) (s : State) :
    exec (ldInstr (.reg dst) .atHL) s = loadReg dst (s.read s.hl) 1 8 s := by
  cases dst <;> rfl

theorem exec_ldInstr_atHL_reg (r : Reg8) (s : State) :
    exec (ldInstr .atHL (.reg r)) s = storeByte s.hl (s.reg r) 1 8 s := by
  cases r <;> rfl

theorem exec_ldImmInstr_reg (dst : Reg8) (n8 : Byte) (s : State) :
    exec (ldImmInstr (.reg dst) n8) s = loadReg dst n8 2 8 s := by
  cases dst <;> rfl

/-! ### Loads -/

/-- The end of an instruction whose effects have left `PC` at `p`. -/
theorem done_of_pc_eq {t : State} {p : Word} (h : t.pc = p) (len : Word) (n : Byte) :
    done len n t = .next { t with pc := p + len, cycles := some n } := by
  subst h
  rfl

theorem loadReg_eq (r : Reg8) (v : Byte) (len : Word) (n : Byte) (s : State) :
    loadReg r v len n s = .next { s.setReg r v with pc := s.pc + len, cycles := some n } :=
  done_of_pc_eq (State.setReg_pc s r v) len n

/-- Settles O9: each of the 49 forms is one register load. -/
theorem loadRegisterFromRegister : Obligations.LoadRegisterFromRegister := by
  unfold Obligations.LoadRegisterFromRegister
  intro dst r
  exact ⟨encode_ldInstr_operands _ _, fun s => (exec_ldInstr_reg_reg dst r s).trans (loadReg_eq ..)⟩

/-- Settles O10: each is one register load, of the byte at `HL` or of the immediate. -/
theorem loadRegisterFromMemoryOrImmediate : Obligations.LoadRegisterFromMemoryOrImmediate := by
  unfold Obligations.LoadRegisterFromMemoryOrImmediate
  intro dst
  refine ⟨encode_ldInstr_operands _ .atHL, fun s => ?_, fun n8 => ⟨encode_ldImmInstr _ n8, fun s => ?_⟩⟩
  · exact (exec_ldInstr_reg_atHL dst s).trans (loadReg_eq ..)
  · exact (exec_ldImmInstr_reg dst n8 s).trans (loadReg_eq ..)

/-- Settles O12: five are a register load into `A`; in the two `HL` forms the read is made before `HL` is stepped. -/
theorem loadAccumulator : Obligations.LoadAccumulator := by
  unfold Obligations.LoadAccumulator
  refine ⟨⟨rfl, rfl, rfl, rfl, rfl, fun _ => rfl, fun _ => rfl⟩, fun s => ⟨?_, ?_, ?_, ?_, fun a16 => ?_, fun a8 => ?_, ?_⟩⟩
  · exact loadReg_eq .a (s.read s.bc) 1 8 s
  · exact loadReg_eq .a (s.read s.de) 1 8 s
  · exact done_of_pc_eq (t := (s.setReg .a (s.read s.hl)).setPair .hl (s.hl + 1)) rfl 1 8
  · exact done_of_pc_eq (t := (s.setReg .a (s.read s.hl)).setPair .hl (s.hl - 1)) rfl 1 8
  · exact loadReg_eq .a (s.read a16) 3 16 s
  · exact loadReg_eq .a (s.read (highPage a8)) 2 12 s
  · exact loadReg_eq .a (s.read (highPage s.c)) 1 8 s

/-! ### Stores -/

theorem write_of_absent {a : Word} (h : absent a) (v : Byte) (s : State) : write a v s = memoryFault a v s :=
  write_of_xram v ((place_eq_xram_iff s a).mpr h)

/-- An instruction that writes a byte, then ends in the state `k` leads to, meets `Writes` where that is the state it names. -/
theorem writes_of_exec_eq {i : Instr} {s before : State} {a : Word} {v : Byte} {len : Word} {n : Byte}
    {after k : State → State} (hexec : exec i s = andThen (write a v before) fun t => done len n (k t))
    (hk : k (before.store a v) = after (before.store a v)) (hpc : (after (before.store a v)).pc = s.pc) :
    Writes i s before a v len n after := by
  constructor
  · intro h
    rw [hexec, write_of_not_absent h, andThen_next, hk, done_of_pc_eq hpc]
  · intro h
    rw [hexec, write_of_absent h]
    rfl

theorem writes_of_exec_eq_storeByte {i : Instr} {s : State} {a : Word} {v : Byte} {len : Word} {n : Byte}
    (hexec : exec i s = storeByte a v len n s) : Writes i s s a v len n id :=
  writes_of_exec_eq hexec rfl (State.store_pc s a v)

/-- The store at `HL` that steps it: the write leaves `HL` as it was, so what is stepped is the old `HL` (R139, R140). -/
theorem writes_of_exec_eq_store_step_hl {i : Instr} {s : State} {next : Word → Word}
    (hexec : exec i s = andThen (write s.hl s.a s) fun t => done 1 8 (t.setPair .hl (next t.hl))) :
    Writes i s s s.hl s.a 1 8 fun t => { t with h := hi (next s.hl), l := lo (next s.hl) } := by
  refine writes_of_exec_eq hexec ?_ (State.store_pc s s.hl s.a)
  rw [State.store_hl]
  rfl

/-- The high page lies above the window without a store, so a write there is performed (20_memory.md R62). -/
theorem not_absent_highPage (n : Byte) : ¬ absent (highPage n) := by
  have haddr : (highPage n).toNat = (0xFF00 + n.toNat) % 0x10000 := by simp [highPage, Config.highPage, zext16]
  omega

/-- A store into the high page completes in every state (R150, R152). -/
theorem exec_eq_of_storeByte_highPage {i : Instr} {s : State} {m v : Byte} {len : Word} {n : Byte}
    (hexec : exec i s = storeByte (highPage m) v len n s) :
    exec i s = .next { s.store (highPage m) v with pc := s.pc + len, cycles := some n } :=
  (writes_of_exec_eq_storeByte hexec).1 (not_absent_highPage m)

/-- Settles O11: each is one byte store at `HL`. -/
theorem storeAtHL : Obligations.StoreAtHL := by
  unfold Obligations.StoreAtHL
  refine ⟨fun r => ⟨encode_ldInstr_operands .atHL _, fun s => ?_⟩, fun n8 => ⟨encode_ldImmInstr .atHL n8, fun s => ?_⟩⟩
  · exact writes_of_exec_eq_storeByte (exec_ldInstr_atHL_reg r s)
  · exact writes_of_exec_eq_storeByte rfl

/-- Settles O13: three are one byte store, two step `HL` after it, and two store into the high page. -/
theorem storeAccumulator : Obligations.StoreAccumulator := by
  unfold Obligations.StoreAccumulator
  refine ⟨⟨rfl, rfl, rfl, rfl, rfl, fun _ => rfl, fun _ => rfl⟩, fun s => ⟨?_, ?_, ?_, ?_, fun a16 => ?_, fun a8 => ?_, ?_⟩⟩
  · exact writes_of_exec_eq_storeByte rfl
  · exact writes_of_exec_eq_storeByte rfl
  · exact writes_of_exec_eq_store_step_hl (next := (· + 1)) rfl
  · exact writes_of_exec_eq_store_step_hl (next := (· - 1)) rfl
  · exact writes_of_exec_eq_storeByte rfl
  · exact exec_eq_of_storeByte_highPage rfl
  · exact exec_eq_of_storeByte_highPage rfl

end Sys2Proof.Machine
end

section
/-! PROOFS. The 16-bit loads (O14, O15, O16) and the stack (O17, O18, O19) of 41_load16_stack.md. -/

open Sys2Proof.Stated

namespace Sys2Proof

/-! ### The encodings of the pair operands (30_encoding.md R105, R110) -/

theorem encode_ldPairInstr (p : Pair) (n16 : Word) :
    encode (ldPairInstr p n16) = [0b00#2 ++ codePair p ++ 0b0001#4, lo n16, hi n16] := by
  cases p <;> rfl

theorem encode_pushInstr (p : StackPair) : encode (pushInstr p) = [0b11#2 ++ codeStackPair p ++ 0b0101#4] := by
  cases p <;> rfl

theorem encode_popInstr (p : StackPair) : encode (popInstr p) = [0b11#2 ++ codeStackPair p ++ 0b0001#4] := by
  cases p <;> rfl

end Sys2Proof

namespace Sys2Proof.Machine

/-! ### What each pair form executes -/

theorem exec_ldPairInstr (p : Pair) (n16 : Word) (s : State) : exec (ldPairInstr p n16) s = done 3 12 (s.setPair p n16) := by
  cases p <;> rfl

theorem exec_pushInstr (p : StackPair) (s : State) :
    exec (pushInstr p) s = andThen (push16 (s.stackPair p) s) fun t => done 1 16 t := by
  cases p <;> rfl

/-- A pop, its whole next state: the word at the old `SP` in the pair, and `SP` past it (41_load16_stack.md R174). -/
theorem exec_popInstr (p : StackPair) (s : State) :
    exec (popInstr p) s = .next { s.setStackPair p s.popped with sp := s.sp + 2, pc := s.pc + 1, cycles := some 12 } := by
  cases p <;> rfl

/-! ### Loads -/

/-- Settles O14: a pair loaded leaves `PC` as it was. -/
theorem loadPairs : Obligations.LoadPairs := by
  unfold Obligations.LoadPairs
  refine ⟨fun p n16 => ⟨encode_ldPairInstr p n16, fun s => ?_⟩, rfl, fun s => ?_⟩
  · exact (exec_ldPairInstr p n16 s).trans (done_of_pc_eq (State.setPair_pc s p n16) 3 12)
  · exact done_of_pc_eq (t := { s with sp := s.hl }) rfl 1 8

/-- The flag byte as the statements write it, by masks, is the one the model puts together field by field (10_state.md R26). -/
theorem packFlags_eq_flagByte (f : Byte) (z n h c : Bool) : packFlags f z n h c = flagByte f z n h c := by
  have hlow : f &&& 0x0F = (f.extractLsb' 0 4).zeroExtend 8 := by
    revert f
    decide
  rw [packFlags, flagByte, hlow]
  generalize f.extractLsb' 0 4 = low
  revert low z n h c
  decide

theorem setFlags_eq_flagByte (s : State) (z n h c : Bool) : s.setFlags z n h c = { s with f := flagByte s.f z n h c } := by
  rw [State.setFlags, packFlags_eq_flagByte]

/-- Settles O16: both write the flags from the old `SP` and the raw byte, then the one sum to `SP` or to `HL`. -/
theorem stackPointerPlusDisplacement : Obligations.StackPointerPlusDisplacement := by
  unfold Obligations.StackPointerPlusDisplacement
  refine fun e8 => ⟨rfl, rfl, fun s => ⟨?_, ?_⟩⟩
  · show execAddSP_e8 e8 s = _
    rw [execAddSP_e8, State.setSpFlags, setFlags_eq_flagByte]
    rfl
  · show execLdHL_SPe8 e8 s = _
    rw [execLdHL_SPe8, State.setSpFlags, setFlags_eq_flagByte]
    rfl

/-! ### The word write (20_memory.md R55) -/

theorem writeWord_of_not_absent {a : Word} (hhigh : ¬ absent (a + 1)) (hlow : ¬ absent a) (v : Word) (s : State) :
    writeWord a v s = .next ((s.store (a + 1) (hi v)).store a (lo v)) := by
  rw [writeWord, write_of_not_absent hhigh, andThen_next, write_of_not_absent hlow]

/-- The high byte is the first, so nothing is stored where it raises. -/
theorem writeWord_of_absent_high {a : Word} (hhigh : absent (a + 1)) (v : Word) (s : State) :
    writeWord a v s = memoryFault (a + 1) (hi v) s := by
  rw [writeWord, write_of_absent hhigh]
  rfl

/-- The high byte stays stored where the low one raises. -/
theorem writeWord_of_absent_low {a : Word} (hhigh : ¬ absent (a + 1)) (hlow : absent a) (v : Word) (s : State) :
    writeWord a v s = memoryFault a (lo v) (s.store (a + 1) (hi v)) := by
  rw [writeWord, write_of_not_absent hhigh, andThen_next, write_of_absent hlow]

theorem exec_ldA16_SP (a16 : Word) (s : State) :
    exec (.ldA16_SP a16) s = andThen (writeWord a16 s.sp s) fun t => done 3 20 t := rfl

/-- Settles O15: the instruction is one word write, which completes or raises as its two bytes do. -/
theorem storeStackPointer : Obligations.StoreStackPointer := by
  unfold Obligations.StoreStackPointer
  refine fun a16 => ⟨rfl, fun s => ⟨fun hhigh hlow => ?_, fun hhigh => ?_, fun hhigh hlow => ?_⟩⟩
  · have hpc : ((s.store (a16 + 1) (hi s.sp)).store a16 (lo s.sp)).pc = s.pc := by simp
    rw [exec_ldA16_SP, writeWord_of_not_absent hhigh hlow, andThen_next, done_of_pc_eq hpc]
  · rw [exec_ldA16_SP, writeWord_of_absent_high hhigh]
    rfl
  · rw [exec_ldA16_SP, writeWord_of_absent_low hhigh hlow]
    rfl

/-! ### The stack -/

@[simp] theorem State.pushed_pc (s : State) (v : Word) : (s.pushed v).pc = s.pc := by simp [State.pushed]

theorem push16_of_not_absent {s : State} (hhigh : ¬ absent (s.sp - 1)) (hlow : ¬ absent (s.sp - 2)) (v : Word) :
    push16 v s = .next (s.pushed v) :=
  push16_of_not_xram v (mt (place_eq_xram_iff s _).mp hhigh) (mt (place_eq_xram_iff s _).mp hlow)

/-- The high byte is the first, so nothing is stored where it raises (41_load16_stack.md R173). -/
theorem push16_of_absent_high {s : State} (hhigh : absent (s.sp - 1)) (v : Word) :
    push16 v s = memoryFault (s.sp - 1) (hi v) s := by
  rw [push16, write_of_absent hhigh]
  rfl

/-- The high byte stays stored where the low one raises, and `SP` is not lowered (R173). -/
theorem push16_of_absent_low {s : State} (hhigh : ¬ absent (s.sp - 1)) (hlow : absent (s.sp - 2)) (v : Word) :
    push16 v s = memoryFault (s.sp - 2) (lo v) (s.store (s.sp - 1) (hi v)) := by
  rw [push16, write_of_not_absent hhigh, andThen_next, State.store_sp, write_of_absent hlow]
  rfl

/-- An instruction that pushes a word, then does `k`, meets `Pushes` where `k` ends it at the target. -/
theorem pushes_of_exec_eq {i : Instr} {s : State} {v target : Word} {n : Byte} {k : State → Res}
    (hexec : exec i s = andThen (push16 v s) k) (hk : k (s.pushed v) = .next { s.pushed v with pc := target, cycles := some n }) :
    Pushes i s v target n := by
  refine ⟨fun hhigh hlow => ?_, fun hhigh => ?_, fun hhigh hlow => ?_⟩
  · rw [hexec, push16_of_not_absent hhigh hlow, andThen_next, hk]
    rfl
  · rw [hexec, push16_of_absent_high hhigh]
    rfl
  · rw [hexec, push16_of_absent_low hhigh hlow]
    rfl

/-- Settles O17: each is one push of its pair. -/
theorem pushPair : Obligations.PushPair := by
  unfold Obligations.PushPair
  refine fun p => ⟨encode_pushInstr p, fun s => ?_⟩
  exact pushes_of_exec_eq (exec_pushInstr p s) (done_of_pc_eq (State.pushed_pc s _) 1 16)

/-- Settles O18: the word at `SP` is its two bytes, the high one from `SP + 1`. -/
theorem popPair : Obligations.PopPair := by
  unfold Obligations.PopPair
  exact fun p => ⟨encode_popInstr p, exec_popInstr p⟩

/-- After a pop the pair holds the word that was on top, and `SP` is past it (41_load16_stack.md R174). -/
theorem exists_exec_popInstr (p : StackPair) (s : State) :
    ∃ u, exec (popInstr p) s = .next u ∧ u.stackPair p = s.popped ∧ u.sp = s.sp + 2 := by
  refine ⟨_, exec_popInstr p s, ?_, rfl⟩
  cases p <;> exact word_hi_lo s.popped

/-- The two stack bytes of a push read back (20_memory.md R54, R55). -/
theorem read_pushed {s : State} (hs : s.Inv) (hhigh : writable (s.sp - 1)) (hlow : writable (s.sp - 2)) (v : Word) :
    (s.pushed v).read (s.sp - 2) = lo v ∧ (s.pushed v).read (s.sp - 1) = hi v := by
  have hsucc : s.sp - 1 = s.sp - 2 + 1 := by bv_omega
  have hread := read_store_word hs (hi v) (lo v) hlow (hsucc ▸ hhigh)
  rw [← hsucc] at hread
  exact hread

theorem popped_pushed {s : State} (hs : s.Inv) (hhigh : writable (s.sp - 1)) (hlow : writable (s.sp - 2)) (v : Word) :
    (s.pushed v).popped = v := by
  have hsucc : s.sp - 2 + 1 = s.sp - 1 := by bv_omega
  obtain ⟨hreadLow, hreadHigh⟩ := read_pushed hs hhigh hlow v
  calc (s.pushed v).popped
    _ = word ((s.pushed v).read (s.sp - 2 + 1)) ((s.pushed v).read (s.sp - 2)) := rfl
    _ = v := by rw [hsucc, hreadHigh, hreadLow, word_hi_lo]

/-- Settles O19: the pop finds the word pushed, and raises `SP` by what the push lowered it. -/
theorem pushThenPopReturnsValue : Obligations.PushThenPopReturnsValue := by
  unfold Obligations.PushThenPopReturnsValue
  intro s p q hs hhigh hlow
  have hpush : exec (pushInstr p) s = .next ((s.pushed (s.stackPair p)).advance 1 16) := by
    rw [exec_pushInstr, push16_of_not_xram _ (place_ne_xram_of_writable hhigh s) (place_ne_xram_of_writable hlow s),
      andThen_next, done]
  obtain ⟨u, hpop, hpair, hsp⟩ := exists_exec_popInstr q ((s.pushed (s.stackPair p)).advance 1 16)
  refine ⟨_, u, hpush, hpop, ?_, ?_⟩
  · rw [hpair]
    exact popped_pushed hs hhigh hlow (s.stackPair p)
  · rw [hsp]
    exact BitVec.sub_add_cancel s.sp 2

end Sys2Proof.Machine
end

section
/-! PROOFS. 8-bit arithmetic and logic (42_alu8.md): the accumulator operations (O20, O21), increments and decrements (O22, O23),
`DAA` and what it is for (O24, O25), and `CPL`, `SCF`, `CCF` (O26). -/

open Sys2Proof.Stated

namespace Sys2Proof

/-! ### The encodings (30_encoding.md R110) -/

/-- Block `x = 2` of the map. -/
theorem encode_aluInstr_operands (op : AluOp) (x : R8) : encode (aluInstr op x) = [0b10#2 ++ codeAlu op ++ code8 x] := by
  rw [← r8OfCode_code x]
  generalize x.code = z
  cases op <;> fin_cases z <;> rfl

theorem encode_aluImmInstr (op : AluOp) (n8 : Byte) :
    encode (aluImmInstr op n8) = [0b11#2 ++ codeAlu op ++ 0b110#3, n8] := by
  cases op <;> rfl

theorem encode_incInstr_reg (r : Reg8) : encode (incInstr (.reg r)) = [0b00#2 ++ code8 (.reg r) ++ 0b100#3] := by
  cases r <;> rfl

theorem encode_decInstr_reg (r : Reg8) : encode (decInstr (.reg r)) = [0b00#2 ++ code8 (.reg r) ++ 0b101#3] := by
  cases r <;> rfl

end Sys2Proof

namespace Sys2Proof.Machine

/-! ### The two-operand operations (42_alu8.md R190 to R197) -/

/-- What the model does for each operation selector, but for the end of the instruction. -/
def accumulate (op : AluOp) (v : Byte) (s : State) : State :=
  match op with
  | .add => addA v false s
  | .adc => addA v s.flagC s
  | .sub => subA v false s
  | .sbc => subA v s.flagC s
  | .and => andA v s
  | .xor => xorA v s
  | .or => orA v s
  | .cp => compareA v s

theorem exec_aluInstr_reg (op : AluOp) (r : Reg8) (s : State) :
    exec (aluInstr op (.reg r)) s = done 1 4 (accumulate op (s.reg r) s) := by
  cases op <;> cases r <;> rfl

theorem exec_aluInstr_atHL (op : AluOp) (s : State) :
    exec (aluInstr op .atHL) s = done 1 8 (accumulate op (s.read s.hl) s) := by
  cases op <;> rfl

theorem exec_aluImmInstr (op : AluOp) (n8 : Byte) (s : State) :
    exec (aluImmInstr op n8) s = done 2 8 (accumulate op n8 s) := by
  cases op <;> rfl

/-- The sum of R220, taken over the naturals, is the sum of bytes. -/
theorem add8_eq (a b : Byte) (cin : Bool) :
    add8 a b cin = { r := a + b + BitVec.ofNat 8 cin.toNat
                     h := decide (0x0F < a.toNat % 16 + b.toNat % 16 + cin.toNat)
                     c := decide (0xFF < a.toNat + b.toNat + cin.toNat) } := by
  have hr : BitVec.ofNat 8 (a.toNat + b.toNat + cin.toNat) = a + b + BitVec.ofNat 8 cin.toNat := by
    rw [BitVec.ofNat_add, BitVec.ofNat_add, BitVec.ofNat_toNat, BitVec.ofNat_toNat, BitVec.setWidth_eq, BitVec.setWidth_eq]
  rw [← hr]
  rfl

/-- The difference of R221, taken over the integers, is the difference of bytes. -/
theorem sub8_eq (a b : Byte) (cin : Bool) :
    sub8 a b cin = { r := a - b - BitVec.ofNat 8 cin.toNat
                     h := decide (a.toNat % 16 < b.toNat % 16 + cin.toNat)
                     c := decide (a.toNat < b.toNat + cin.toNat) } := by
  have hr : BitVec.ofInt 8 ((a.toNat : Int) - b.toNat - cin.toNat) = a - b - BitVec.ofNat 8 cin.toNat := by
    apply BitVec.eq_of_toNat_eq
    rw [BitVec.toNat_ofInt, BitVec.toNat_sub, BitVec.toNat_sub, BitVec.toNat_ofNat]
    omega
  rw [← hr]
  rfl

theorem sub_beq_zero (a v : Byte) : (a - v == 0) = (a == v) := by
  rw [Bool.eq_iff_iff, beq_iff_eq, beq_iff_eq]
  exact sub_eq_zero

/-- Each operation of the model leaves what the rules' expressions say. -/
theorem accumulate_eq_afterAlu (op : AluOp) (v : Byte) (s : State) : accumulate op v s = afterAlu op v s := by
  match op with
  | .add =>
    rw [accumulate, addA, add8_eq, setFlags_eq_flagByte, Bool.toNat_false, BitVec.add_zero]
    rfl
  | .adc =>
    rw [accumulate, addA, add8_eq, setFlags_eq_flagByte]
    rfl
  | .sub =>
    rw [accumulate, subA, sub8_eq, setFlags_eq_flagByte, Bool.toNat_false, BitVec.sub_zero, sub_beq_zero]
    rfl
  | .sbc =>
    rw [accumulate, subA, sub8_eq, setFlags_eq_flagByte]
    rfl
  | .cp =>
    rw [accumulate, compareA, sub8_eq, setFlags_eq_flagByte, Bool.toNat_false, BitVec.sub_zero, sub_beq_zero]
    rfl
  | .and =>
    rw [accumulate, andA, setFlags_eq_flagByte]
    rfl
  | .xor =>
    rw [accumulate, xorA, setFlags_eq_flagByte]
    rfl
  | .or =>
    rw [accumulate, orA, setFlags_eq_flagByte]
    rfl

/-- An accumulator operation ends at the next instruction. -/
theorem done_accumulate (op : AluOp) (v : Byte) (len : Word) (n : Byte) (s : State) :
    done len n (accumulate op v s) = .next { afterAlu op v s with pc := s.pc + len, cycles := some n } := by
  rw [accumulate_eq_afterAlu]
  exact done_of_pc_eq rfl len n

/-- Settles O20: the register and the `(HL)` forms differ in the operand and the count alone. -/
theorem accumulatorOperations : Obligations.AccumulatorOperations := by
  unfold Obligations.AccumulatorOperations
  refine fun op => ⟨fun r => ⟨encode_aluInstr_operands op _, fun s => ?_⟩, encode_aluInstr_operands op .atHL, fun s => ?_⟩
  · exact (exec_aluInstr_reg op r s).trans (done_accumulate ..)
  · exact (exec_aluInstr_atHL op s).trans (done_accumulate ..)

theorem exec_aluImmInstr_eq_next (op : AluOp) (n8 : Byte) (s : State) :
    exec (aluImmInstr op n8) s = .next { afterAlu op n8 s with pc := s.pc + 2, cycles := some 8 } :=
  (exec_aluImmInstr op n8 s).trans (done_accumulate ..)

/-- Settles O21: the operation is that of the register forms, on the immediate. -/
theorem accumulatorImmediateOperations : Obligations.AccumulatorImmediateOperations := by
  unfold Obligations.AccumulatorImmediateOperations
  exact fun op n8 => ⟨encode_aluImmInstr op n8, exec_aluImmInstr_eq_next op n8⟩

/-! ### Increments and decrements (R206 to R209) -/

theorem exec_incInstr_reg (r : Reg8) (s : State) : exec (incInstr (.reg r)) s = incRegister r s := by
  cases r <;> rfl

theorem exec_decInstr_reg (r : Reg8) (s : State) : exec (decInstr (.reg r)) s = decRegister r s := by
  cases r <;> rfl

theorem add_one_beq_zero (a : Byte) : (a + 1 == 0) = (a == 0xFF) := by
  rw [Bool.eq_iff_iff, beq_iff_eq, beq_iff_eq]
  exact add_eq_zero_iff_eq_neg

theorem State.incFlags_eq (s : State) (a : Byte) :
    s.incFlags a = { s with f := flagByte s.f (a == 0xFF) false (decide (a.toNat % 16 = 0xF)) (s.f.getLsbD 4) } := by
  rw [State.incFlags, add_one_beq_zero, setFlags_eq_flagByte]
  rfl

theorem State.decFlags_eq (s : State) (a : Byte) :
    s.decFlags a = { s with f := flagByte s.f (a == 0x01) true (decide (a.toNat % 16 = 0x0)) (s.f.getLsbD 4) } := by
  rw [State.decFlags, sub_beq_zero, setFlags_eq_flagByte]
  rfl

/-- `F` is none of the seven registers, so it does not matter which is written first. -/
theorem State.setReg_with_f (s : State) (r : Reg8) (v f : Byte) : { s with f := f }.setReg r v = { s.setReg r v with f := f } := by
  cases r <;> rfl

/-- Settles O22: the flags come from the old value of the register, whatever is written first. -/
theorem incrementDecrementRegister : Obligations.IncrementDecrementRegister := by
  unfold Obligations.IncrementDecrementRegister
  refine fun r => ⟨encode_incInstr_reg r, encode_decInstr_reg r, fun s => ⟨?_, ?_⟩⟩
  · rw [exec_incInstr_reg, incRegister, State.incFlags_eq, State.setReg_with_f]
    refine done_of_pc_eq ?_ 1 4
    exact State.setReg_pc ..
  · rw [exec_decInstr_reg, decRegister, State.decFlags_eq, State.setReg_with_f]
    refine done_of_pc_eq ?_ 1 4
    exact State.setReg_pc ..

theorem writes_incAtHL (s : State) :
    Writes .incAtHL s (s.incFlags (s.read s.hl)) s.hl (s.read s.hl + 1) 1 12 id :=
  writes_of_exec_eq (k := id) rfl rfl (State.store_pc ..)

theorem writes_decAtHL (s : State) :
    Writes .decAtHL s (s.decFlags (s.read s.hl)) s.hl (s.read s.hl - 1) 1 12 id :=
  writes_of_exec_eq (k := id) rfl rfl (State.store_pc ..)

/-- The window without a store reads 0xFF (20_memory.md R62). -/
theorem read_of_absent {s : State} {a : Word} (h : absent a) : s.read a = 0xFF := by
  rw [State.read, (place_eq_xram_iff s a).mpr h]
  rfl

/-- Settles O23: the write is made in the state the flags have left, and where it raises the byte read was 0xFF. -/
theorem incrementDecrementMemory : Obligations.IncrementDecrementMemory := by
  unfold Obligations.IncrementDecrementMemory
  refine ⟨rfl, rfl, fun s => ?_⟩
  have hinc := writes_incAtHL s
  have hdec := writes_decAtHL s
  rw [State.incFlags_eq] at hinc
  rw [State.decFlags_eq] at hdec
  refine ⟨hinc, hdec, fun h => ⟨?_, ?_⟩⟩
  · have hvalue : s.read s.hl + 1 = 0x00 := by rw [read_of_absent h]; rfl
    exact (hinc.2 h).trans (congrArg (memoryFault s.hl · _) hvalue)
  · have hvalue : s.read s.hl - 1 = 0xFE := by rw [read_of_absent h]; rfl
    exact (hdec.2 h).trans (congrArg (memoryFault s.hl · _) hvalue)

/-! ### Complement and carry (R211 to R213) -/

/-- Settles O26: each writes its flags, and `CPL` the complement. -/
theorem accumulatorAndCarryAdjust : Obligations.AccumulatorAndCarryAdjust := by
  unfold Obligations.AccumulatorAndCarryAdjust
  refine ⟨rfl, rfl, rfl, fun s => ⟨?_, ?_, ?_⟩⟩
  · show execCpl s = _
    rw [execCpl, setFlags_eq_flagByte, ← BitVec.xor_allOnes]
    rfl
  · show execScf s = _
    rw [execScf, setFlags_eq_flagByte]
    rfl
  · show execCcf s = _
    rw [execCcf, setFlags_eq_flagByte]
    rfl

/-! ### The flags, read back (10_state.md R26) -/

theorem flagByte_z (f : Byte) (z n h c : Bool) : (flagByte f z n h c).getLsbD 7 = z := by
  rw [← packFlags_eq_flagByte]
  exact packFlags_z ..

theorem flagByte_n (f : Byte) (z n h c : Bool) : (flagByte f z n h c).getLsbD 6 = n := by
  rw [← packFlags_eq_flagByte]
  exact packFlags_n ..

theorem flagByte_h (f : Byte) (z n h c : Bool) : (flagByte f z n h c).getLsbD 5 = h := by
  rw [← packFlags_eq_flagByte]
  exact packFlags_h ..

theorem flagByte_c (f : Byte) (z n h c : Bool) : (flagByte f z n h c).getLsbD 4 = c := by
  rw [← packFlags_eq_flagByte]
  exact packFlags_c ..

/-! ### `DAA` (R210) -/

/-- The two corrections of an addition do not overlap, so joining them adds them. -/
theorem adjustAdd_eq (a : Byte) (h c : Bool) :
    adjustAdd a h c =
      BitVec.ofNat 8 ((if h ∨ a.toNat % 16 > 9 then 0x06 else 0) + if c ∨ a.toNat > 0x99 then 0x60 else 0) := by
  unfold adjustAdd
  split_ifs <;> rfl

theorem adjustSub_eq (h c : Bool) : adjustSub h c = BitVec.ofNat 8 ((if h then 0x06 else 0) + if c then 0x60 else 0) := by
  cases h <;> cases c <;> rfl

/-- The state `DAA` leaves with `r` in `A`: flags `* - 0 *`. -/
def State.adjusted (s : State) (r : Byte) (carry : Bool) : State :=
  { s with a := r, f := flagByte s.f (r == 0) (s.f.getLsbD 6) false carry, pc := s.pc + 1, cycles := some 4 }

/-- After an addition the two corrections are added. -/
theorem exec_daa_of_not_n {s : State} (hn : s.f.getLsbD 6 = false) :
    exec .daa s = .next (s.adjusted (s.a + adjustAdd s.a s.flagH s.flagC) (s.flagC || decide (s.a.toNat > 0x99))) := by
  have h : decimalAdjust s = { s.setFlags (s.a + adjustAdd s.a s.flagH s.flagC == 0) s.flagN false
      (s.flagC || decide (s.a.toNat > 0x99)) with a := s.a + adjustAdd s.a s.flagH s.flagC } := if_pos hn
  rw [setFlags_eq_flagByte] at h
  exact congrArg (done 1 4) h

/-- After a subtraction the two corrections are taken away. -/
theorem exec_daa_of_n {s : State} (hn : s.f.getLsbD 6 = true) :
    exec .daa s = .next (s.adjusted (s.a - adjustSub s.flagH s.flagC) s.flagC) := by
  have h : decimalAdjust s = { s.setFlags (s.a - adjustSub s.flagH s.flagC == 0) s.flagN false s.flagC with
      a := s.a - adjustSub s.flagH s.flagC } := if_neg (ne_false_of_eq_true hn)
  rw [setFlags_eq_flagByte] at h
  exact congrArg (done 1 4) h

end Sys2Proof.Machine

namespace Sys2Proof

open Sys2Proof.Machine

/-- Settles O24: after an addition both conditions are tested on the old `A`, after a subtraction on `H` and `C` alone. -/
theorem decimalAdjust : Obligations.DecimalAdjust := by
  unfold Obligations.DecimalAdjust
  refine ⟨rfl, fun s => ?_⟩
  cases hn : s.f.getLsbD 6 with
  | false =>
    rw [exec_daa_of_not_n hn, adjustAdd_eq, State.adjusted, hn]
    simp [State.flagH, State.flagC]
  | true =>
    rw [exec_daa_of_n hn, adjustSub_eq, State.adjusted, hn]
    simp [State.flagH, State.flagC]

end Sys2Proof

namespace Sys2Proof.Machine

/-! ### Two-digit decimal arithmetic (R198, R200, R210) -/

theorem toNat_bcd {n : Nat} (h : n < 100) : (bcd n).toNat = n / 10 * 16 + n % 10 := by
  rw [bcd, BitVec.toNat_ofNat]
  omega

theorem bcd_beq_zero {n : Nat} (h : n < 100) : (bcd n == 0) = decide (n = 0) := by
  rw [Bool.eq_iff_iff, beq_iff_eq, decide_eq_true_iff, ← BitVec.toNat_inj, toNat_bcd h]
  show n / 10 * 16 + n % 10 = 0 ↔ n = 0
  omega

/-- The first condition of `DAA` after an addition holds where the units carry: the half-carry sees sums from sixteen on, the test
of the nibble those from ten to fifteen. -/
theorem low_adjust_iff {x y : Nat} (hx : x < 100) (hy : y < 100) :
    (0x0F < (bcd x).toNat % 16 + (bcd y).toNat % 16 ∨ 9 < (bcd x + bcd y).toNat % 16) ↔ 10 ≤ x % 10 + y % 10 := by
  rw [BitVec.toNat_add, toNat_bcd hx, toNat_bcd hy]
  omega

/-- The second condition holds where the whole sum carries, a carry out of the units included. -/
theorem high_adjust_iff {x y : Nat} (hx : x < 100) (hy : y < 100) :
    (0xFF < (bcd x).toNat + (bcd y).toNat ∨ 0x99 < (bcd x + bcd y).toNat) ↔ 100 ≤ x + y := by
  have hwrap (n : Nat) : 0xFF < n ∨ 0x99 < n % 2 ^ 8 ↔ 0x99 < n := by omega
  rw [BitVec.toNat_add, hwrap, toNat_bcd hx, toNat_bcd hy]
  omega

/-- Each digit that carried is brought back by ten and sixteen is carried out of it. -/
theorem bcd_add {x y : Nat} (hx : x < 100) (hy : y < 100) :
    bcd x + bcd y + BitVec.ofNat 8 ((if 10 ≤ x % 10 + y % 10 then 0x06 else 0) + if 100 ≤ x + y then 0x60 else 0) =
      bcd ((x + y) % 100) := by
  apply BitVec.eq_of_toNat_eq
  rw [BitVec.toNat_add, BitVec.toNat_add, BitVec.toNat_ofNat, toNat_bcd hx, toNat_bcd hy, toNat_bcd (Nat.mod_lt _ (by decide))]
  split_ifs <;> omega

theorem half_borrow_bcd_iff {x y : Nat} (hx : x < 100) (hy : y < 100) :
    (bcd x).toNat % 16 < (bcd y).toNat % 16 ↔ x % 10 < y % 10 := by
  rw [toNat_bcd hx, toNat_bcd hy]
  omega

theorem borrow_bcd_iff {x y : Nat} (hx : x < 100) (hy : y < 100) : (bcd x).toNat < (bcd y).toNat ↔ x < y := by
  rw [toNat_bcd hx, toNat_bcd hy]
  omega

/-- Each digit that borrowed got sixteen for its ten. -/
theorem bcd_sub {x y : Nat} (hx : x < 100) (hy : y < 100) :
    bcd x - bcd y - BitVec.ofNat 8 ((if x % 10 < y % 10 then 0x06 else 0) + if x < y then 0x60 else 0) =
      bcd ((x + 100 - y) % 100) := by
  apply BitVec.eq_of_toNat_eq
  rw [BitVec.toNat_sub, BitVec.toNat_sub, BitVec.toNat_ofNat, toNat_bcd hx, toNat_bcd hy, toNat_bcd (Nat.mod_lt _ (by decide))]
  split_ifs <;> omega

/-- `DAA` in a state that an addition of decimal operands leaves, by what the addition put into `A`, `N`, `H` and `C`. -/
theorem exec_daa_of_add {x y : Nat} (hx : x < 100) (hy : y < 100) {t : State} (ha : t.a = bcd x + bcd y)
    (hn : t.f.getLsbD 6 = false) (hh : t.flagH = decide (0x0F < (bcd x).toNat % 16 + (bcd y).toNat % 16))
    (hc : t.flagC = decide (0xFF < (bcd x).toNat + (bcd y).toNat)) :
    exec .daa t = .next (t.adjusted (bcd ((x + y) % 100)) (decide (100 ≤ x + y))) := by
  have hlow : (t.flagH = true ∨ t.a.toNat % 16 > 9) ↔ 10 ≤ x % 10 + y % 10 := by
    rw [hh, ha, decide_eq_true_iff]
    exact low_adjust_iff hx hy
  have hhigh : (t.flagC = true ∨ t.a.toNat > 0x99) ↔ 100 ≤ x + y := by
    rw [hc, ha, decide_eq_true_iff]
    exact high_adjust_iff hx hy
  have hcarry : (t.flagC || decide (t.a.toNat > 0x99)) = decide (100 ≤ x + y) := by
    rw [Bool.eq_iff_iff, Bool.or_eq_true, decide_eq_true_iff, decide_eq_true_iff]
    exact hhigh
  rw [exec_daa_of_not_n hn, hcarry, adjustAdd_eq, if_congr hlow rfl rfl, if_congr hhigh rfl rfl, ha, bcd_add hx hy]

/-- `DAA` in a state that a subtraction of decimal operands leaves. -/
theorem exec_daa_of_sub {x y : Nat} (hx : x < 100) (hy : y < 100) {t : State} (ha : t.a = bcd x - bcd y)
    (hn : t.f.getLsbD 6 = true) (hh : t.flagH = decide ((bcd x).toNat % 16 < (bcd y).toNat % 16))
    (hc : t.flagC = decide ((bcd x).toNat < (bcd y).toNat)) :
    exec .daa t = .next (t.adjusted (bcd ((x + 100 - y) % 100)) (decide (x < y))) := by
  have hlow : t.flagH = true ↔ x % 10 < y % 10 := by
    rw [hh, decide_eq_true_iff]
    exact half_borrow_bcd_iff hx hy
  have hhigh : t.flagC = true ↔ x < y := by
    rw [hc, decide_eq_true_iff]
    exact borrow_bcd_iff hx hy
  have hborrow : t.flagC = decide (x < y) := hc.trans (decide_eq_decide.mpr (borrow_bcd_iff hx hy))
  rw [exec_daa_of_n hn, adjustSub_eq, if_congr hlow rfl rfl, if_congr hhigh rfl rfl, ha, bcd_sub hx hy, hborrow]

/-- Settles O25: `DAA` after the operation leaves the decimal result and its carry or borrow, and `Z` from the result. -/
theorem decimalArithmeticIsExact : Obligations.DecimalArithmeticIsExact := by
  unfold Obligations.DecimalArithmeticIsExact
  intro s x y hx hy ha
  have hmod (n : Nat) : n % 100 < 100 := Nat.mod_lt n (by decide)
  constructor
  · refine ⟨_, _, exec_aluImmInstr_eq_next .add (bcd y) s,
      exec_daa_of_add hx hy ?_ (flagByte_n ..) ?_ ?_, rfl, flagByte_c .., ?_⟩
    · exact congrArg (· + bcd y) ha
    · rw [← ha]
      exact flagByte_h ..
    · rw [← ha]
      exact flagByte_c ..
    · exact (flagByte_z ..).trans (bcd_beq_zero (hmod _))
  · refine ⟨_, _, exec_aluImmInstr_eq_next .sub (bcd y) s,
      exec_daa_of_sub hx hy ?_ (flagByte_n ..) ?_ ?_, rfl, flagByte_c .., ?_⟩
    · exact congrArg (· - bcd y) ha
    · rw [← ha]
      exact flagByte_h ..
    · rw [← ha]
      exact flagByte_c ..
    · have hzero : (x + 100 - y) % 100 = 0 ↔ x = y := by omega
      exact (flagByte_z ..).trans ((bcd_beq_zero (hmod _)).trans (decide_eq_decide.mpr hzero))

end Sys2Proof.Machine
end

section
/-! PROOFS. 16-bit arithmetic (43_alu16.md): `INC rp` and `DEC rp` (O27), `ADD HL,rp` (O28). -/

open Sys2Proof.Stated

namespace Sys2Proof

/-! ### The encodings of the pair operands (30_encoding.md R105, R110) -/

theorem encode_incPairInstr (p : Pair) : encode (incPairInstr p) = [0b00#2 ++ codePair p ++ 0b0011#4] := by
  cases p <;> rfl

theorem encode_decPairInstr (p : Pair) : encode (decPairInstr p) = [0b00#2 ++ codePair p ++ 0b1011#4] := by
  cases p <;> rfl

theorem encode_addHLInstr (p : Pair) : encode (addHLInstr p) = [0b00#2 ++ codePair p ++ 0b1001#4] := by
  cases p <;> rfl

end Sys2Proof

namespace Sys2Proof.Machine

/-! ### What each pair form executes (R230 to R232) -/

theorem exec_incPairInstr (p : Pair) (s : State) : exec (incPairInstr p) s = done 1 8 (s.setPair p (s.pair p + 1)) := by
  cases p <;> rfl

theorem exec_decPairInstr (p : Pair) (s : State) : exec (decPairInstr p) s = done 1 8 (s.setPair p (s.pair p - 1)) := by
  cases p <;> rfl

theorem exec_addHLInstr (p : Pair) (s : State) : exec (addHLInstr p) s = done 1 8 (addHL (s.pair p) s) := by
  cases p <;> rfl

/-- The sum and the flags of `ADD HL,rp` in the words of the statements: `Z` kept, the carries out of bits 11 and 15. -/
theorem addHL_eq (v : Word) (s : State) :
    addHL v s = { s with
      h := hi (s.hl + v), l := lo (s.hl + v)
      f := flagByte s.f (s.f.getLsbD 7) false (decide (0x0FFF < s.hl.toNat % 0x1000 + v.toNat % 0x1000))
        (decide (0xFFFF < s.hl.toNat + v.toNat)) } := by
  rw [addHL, setFlags_eq_flagByte]
  rfl

/-- Settles O28: the sum and the flags are those of `addHL` on the old `HL` and the old pair, which leaves `PC` as it was. -/
theorem addToHL : Obligations.AddToHL := by
  unfold Obligations.AddToHL
  refine fun p => ⟨encode_addHLInstr p, fun s => ?_⟩
  rw [exec_addHLInstr, addHL_eq]
  exact done_of_pc_eq rfl 1 8

/-- Settles O27: a pair written leaves `PC` as it was, and no pair of these holds `F`. -/
theorem incrementDecrementPair : Obligations.IncrementDecrementPair := by
  unfold Obligations.IncrementDecrementPair
  refine fun p => ⟨encode_incPairInstr p, encode_decPairInstr p, fun s => ⟨?_, ?_⟩⟩
  · exact (exec_incPairInstr p s).trans (done_of_pc_eq (State.setPair_pc ..) 1 8)
  · exact (exec_decPairInstr p s).trans (done_of_pc_eq (State.setPair_pc ..) 1 8)

end Sys2Proof.Machine
end

section
/-! PROOFS. Rotates, shifts and bits (44_rotate_bit.md): the accumulator rotates (O29), rotates and shifts of an operand (O30),
`BIT` (O31), `RES` and `SET` (O32). -/

open Sys2Proof.Stated

namespace Sys2Proof

/-! ### The secondary opcodes in bit fields (30_encoding.md R111) -/

theorem secondaryByte_eq_fields (x : Fin 4) (y : Fin 8) (r : R8) :
    secondaryByte x y r.code = BitVec.ofNat 2 x.val ++ BitVec.ofNat 3 y.val ++ code8 r := by
  rw [← r8OfCode_code r, code_r8OfCode]
  generalize r.code = z
  revert x y z
  decide

theorem encode_eq_fields_of_secondary {i : Instr} (x : Fin 4) (y : Fin 8) (r : R8)
    (h : encode i = [0xCB, secondaryByte x y r.code]) :
    encode i = [0xCB, BitVec.ofNat 2 x.val ++ BitVec.ofNat 3 y.val ++ code8 r] := by
  rw [h, secondaryByte_eq_fields]

/-! ### One bit of a byte (00_scope.md R9) -/

/-- A bit picked out by division, as the statement of `BIT` writes it. -/
theorem not_bit_eq_decide (v : Byte) (b : Fin 8) : (!bit v b) = decide (v.toNat / 2 ^ b.val % 2 = 0) := by
  rw [bit, BitVec.getLsbD, Nat.testBit_eq_decide_div_mod_eq, ← decide_not, decide_eq_decide]
  omega

theorem getLsbD_one_shiftLeft (b m : Fin 8) : ((1 : Byte) <<< b.val).getLsbD m = decide (m = b) := by
  revert b m
  decide

theorem getLsbD_clearBit (v : Byte) (b m : Fin 8) :
    (clearBit v b).getLsbD m = if m = b then false else v.getLsbD m := by
  rw [clearBit, BitVec.getLsbD_and, BitVec.getLsbD_not, getLsbD_one_shiftLeft]
  split_ifs with h <;> simp [h]

theorem getLsbD_setBit (v : Byte) (b m : Fin 8) :
    (setBit v b).getLsbD m = if m = b then true else v.getLsbD m := by
  rw [setBit, BitVec.getLsbD_or, getLsbD_one_shiftLeft]
  split_ifs with h <;> simp [h]

end Sys2Proof

namespace Sys2Proof.Machine

/-! ### The shifted bytes (44_rotate_bit.md R240 to R251)

The model joins the bits that stay and the bit that comes in; the statements shift the byte and put the bit in its place. -/

/-- The seven low bits stay, `c` comes in below. -/
theorem append_low_bit (v : Byte) (c : BitVec 1) : v.extractLsb' 0 7 ++ c = v <<< 1 ||| c.setWidth 8 := by
  revert v c
  decide

/-- The seven high bits stay, `c` comes in above. -/
theorem append_high_bit (v : Byte) (c : BitVec 1) : c ++ v.extractLsb' 1 7 = v >>> 1 ||| c.setWidth 8 <<< 7 := by
  revert v c
  decide

theorem append_nibbles (v : Byte) : v.extractLsb' 0 4 ++ v.extractLsb' 4 4 = v <<< 4 ||| v >>> 4 := by
  revert v
  decide

theorem bit_seven_in_low (v : Byte) : (v.extractLsb' 7 1).setWidth 8 = v >>> 7 := by
  revert v
  decide

theorem bit_zero_in_high (v : Byte) : (v.extractLsb' 0 1).setWidth 8 <<< 7 = v <<< 7 := by
  revert v
  decide

theorem bit_seven_in_high (v : Byte) : (v.extractLsb' 7 1).setWidth 8 <<< 7 = v &&& 0x80 := by
  revert v
  decide

theorem carry_in_low (c : Bool) : (BitVec.ofBool c).setWidth 8 = if c then 0x01 else 0 := by
  cases c <;> rfl

theorem carry_in_high (c : Bool) : (BitVec.ofBool c).setWidth 8 <<< 7 = if c then 0x80 else 0 := by
  cases c <;> rfl

theorem getLsbD_seven_eq_decide (v : Byte) : v.getLsbD 7 = decide (0x80 ≤ v.toNat) := BitVec.msb_eq_decide v

theorem getLsbD_zero_eq_decide (v : Byte) : v.getLsbD 0 = decide (v.toNat % 2 = 1) := Nat.testBit_zero ..

/-- What the model does to the operand, by the selector (30_encoding.md R108). -/
def shifted (k : Fin 8) (v : Byte) (carry : Bool) : Shifted :=
  match k with
  | 0 => rotateLeft v
  | 1 => rotateRight v
  | 2 => rotateLeftThrough v carry
  | 3 => rotateRightThrough v carry
  | 4 => shiftLeft v
  | 5 => shiftRightArithmetic v
  | 6 => swapNibbles v
  | 7 => shiftRightLogical v

/-- Each operation of the model leaves the byte and the bit that the rules' expressions say. -/
theorem shifted_eq_rot (k : Fin 8) (v : Byte) (carry : Bool) :
    shifted k v carry = { r := (rot k v carry).1, c := (rot k v carry).2 } := by
  match k with
  | 0 =>
    rw [shifted, rotateLeft, append_low_bit, bit_seven_in_low, getLsbD_seven_eq_decide]
    rfl
  | 1 =>
    rw [shifted, rotateRight, append_high_bit, bit_zero_in_high, getLsbD_zero_eq_decide]
    rfl
  | 2 =>
    rw [shifted, rotateLeftThrough, append_low_bit, carry_in_low, getLsbD_seven_eq_decide]
    rfl
  | 3 =>
    rw [shifted, rotateRightThrough, append_high_bit, carry_in_high, getLsbD_zero_eq_decide]
    rfl
  | 4 =>
    rw [shifted, shiftLeft, append_low_bit, getLsbD_seven_eq_decide]
    exact congrArg (Shifted.mk · _) BitVec.or_zero
  | 5 =>
    rw [shifted, shiftRightArithmetic, append_high_bit, bit_seven_in_high, getLsbD_zero_eq_decide]
    rfl
  | 6 =>
    rw [shifted, swapNibbles, append_nibbles]
    rfl
  | 7 =>
    rw [shifted, shiftRightLogical, append_high_bit, getLsbD_zero_eq_decide]
    exact congrArg (Shifted.mk · _) BitVec.or_zero

/-! ### The accumulator (R240 to R243) -/

theorem rotateA_shifted (k : Fin 8) (s : State) :
    rotateA (shifted k s.a s.flagC) s = .next { s with
      a := (rot k s.a (s.f.getLsbD 4)).1
      f := flagByte s.f false false false (rot k s.a (s.f.getLsbD 4)).2
      pc := s.pc + 1, cycles := some 4 } := by
  rw [rotateA, setFlags_eq_flagByte, shifted_eq_rot]
  exact done_of_pc_eq rfl 1 4

/-- Settles O29: each is the operand rotate of one selector, on `A`. -/
theorem accumulatorRotates : Obligations.AccumulatorRotates := by
  unfold Obligations.AccumulatorRotates
  exact ⟨rfl, rfl, rfl, rfl, fun s =>
    ⟨rotateA_shifted 0 s, rotateA_shifted 1 s, rotateA_shifted 2 s, rotateA_shifted 3 s⟩⟩

/-! ### Rotates and shifts of an operand (R244 to R251) -/

theorem exec_rotInstr (k : Fin 8) (x : R8) (s : State) :
    exec (rotInstr k x) s = rotateR8 (fun v => shifted k v s.flagC) x s := by
  fin_cases k <;> rfl

/-- `F` is none of the registers, so the flags keep the low bits of the old `F`. -/
theorem rotateR8_reg (op : Byte → Shifted) (r : Reg8) (s : State) :
    rotateR8 op (.reg r) s = .next { s.setReg r (op (s.reg r)).r with
      f := flagByte s.f ((op (s.reg r)).r == 0) false false (op (s.reg r)).c, pc := s.pc + 2, cycles := some 8 } := by
  rw [rotateR8, writeR8_reg, andThen_next, setFlags_eq_flagByte, State.setReg_f]
  refine done_of_pc_eq ?_ 2 8
  exact State.setReg_pc ..

/-- The byte is written in the state with the old flags. -/
theorem writes_of_exec_eq_rotateR8 {i : Instr} {op : Byte → Shifted} {s : State} (hexec : exec i s = rotateR8 op .atHL s) :
    Writes i s s s.hl (op (s.read s.hl)).r 2 16 fun t =>
      { t with f := flagByte s.f ((op (s.read s.hl)).r == 0) false false (op (s.read s.hl)).c } := by
  refine writes_of_exec_eq hexec ?_ (State.store_pc ..)
  rw [setFlags_eq_flagByte, State.store_f]
  rfl

/-- Settles O30: the operand is written, then the flags. -/
theorem rotateAndShift : Obligations.RotateAndShift := by
  unfold Obligations.RotateAndShift
  refine fun k => ⟨fun r => ⟨?_, fun s => ?_⟩, ?_, fun s => ?_⟩
  · exact encode_eq_fields_of_secondary 0 k (.reg r) (encode_rotInstr ..)
  · rw [exec_rotInstr, rotateR8_reg, shifted_eq_rot]
    rfl
  · exact encode_eq_fields_of_secondary 0 k .atHL (encode_rotInstr ..)
  · have h := writes_of_exec_eq_rotateR8 (exec_rotInstr k .atHL s)
    rw [shifted_eq_rot] at h
    exact h

/-! ### Bits (R252 to R254) -/

/-- What `BIT` does with an operand `v`, at a cost of `n`. -/
theorem done_bitFlags (b : Fin 8) (v n : Byte) (s : State) :
    done 2 n (s.setFlags (!bit v b) false true s.flagC) = .next { s with
      f := flagByte s.f (decide (v.toNat / 2 ^ b.val % 2 = 0)) false true (s.f.getLsbD 4)
      pc := s.pc + 2, cycles := some n } := by
  rw [not_bit_eq_decide, setFlags_eq_flagByte]
  exact done_of_pc_eq rfl 2 n

theorem modifyR8_reg (op : Byte → Byte) (r : Reg8) (s : State) :
    modifyR8 op (.reg r) s = .next { s.setReg r (op (s.reg r)) with pc := s.pc + 2, cycles := some 8 } :=
  done_of_pc_eq (State.setReg_pc ..) 2 8

theorem writes_of_exec_eq_modifyR8 {i : Instr} {op : Byte → Byte} {s : State} (hexec : exec i s = modifyR8 op .atHL s) :
    Writes i s s s.hl (op (s.read s.hl)) 2 16 id :=
  writes_of_exec_eq (k := id) hexec rfl (State.store_pc ..)

/-- Settles O32: both write the operand with one bit changed, in a register or through `HL`. -/
theorem resetAndSetBit : Obligations.ResetAndSetBit := by
  unfold Obligations.ResetAndSetBit
  refine fun b => ⟨fun x => ⟨encode_eq_fields_of_secondary 2 b x rfl, encode_eq_fields_of_secondary 3 b x rfl⟩,
    fun v m => ⟨getLsbD_clearBit v b m, getLsbD_setBit v b m⟩, fun s => ⟨fun r => ⟨?_, ?_⟩, ?_, ?_⟩⟩
  · exact modifyR8_reg (clearBit · b) r s
  · exact modifyR8_reg (setBit · b) r s
  · exact writes_of_exec_eq_modifyR8 (op := (clearBit · b)) rfl
  · exact writes_of_exec_eq_modifyR8 (op := (setBit · b)) rfl

end Sys2Proof.Machine

namespace Sys2Proof

open Sys2Proof.Machine

/-- Settles O31: the operand is read and the flags alone are written. -/
theorem testBit : Obligations.TestBit := by
  unfold Obligations.TestBit
  refine fun b x => ⟨encode_eq_fields_of_secondary 1 b x rfl, fun s => ?_⟩
  match x with
  | .reg r => exact done_bitFlags b (s.reg r) 8 s
  | .atHL => exact done_bitFlags b (s.read s.hl) 12 s

end Sys2Proof
end

section
/-! PROOFS. Control transfer of 45_control.md: jumps (O33, O34), calls and restarts (O35, O37), returns (O36), and a return after
a call (O38). -/

open Sys2Proof.Stated

namespace Sys2Proof

/-! ### The encodings of the condition forms and of the restarts (30_encoding.md R106, R109, R110) -/

theorem encode_jpCondInstr (cc : Cond) (a16 : Word) :
    encode (jpCondInstr cc a16) = [0b110#3 ++ codeCond cc ++ 0b010#3, lo a16, hi a16] := by
  cases cc <;> rfl

theorem encode_jrCondInstr (cc : Cond) (e8 : Byte) : encode (jrCondInstr cc e8) = [0b001#3 ++ codeCond cc ++ 0b000#3, e8] := by
  cases cc <;> rfl

theorem encode_callCondInstr (cc : Cond) (a16 : Word) :
    encode (callCondInstr cc a16) = [0b110#3 ++ codeCond cc ++ 0b100#3, lo a16, hi a16] := by
  cases cc <;> rfl

theorem encode_retCondInstr (cc : Cond) : encode (retCondInstr cc) = [0b110#3 ++ codeCond cc ++ 0b000#3] := by
  cases cc <;> rfl

theorem encode_rstInstr (y : Fin 8) : encode (rstInstr y) = [0b11#2 ++ BitVec.ofNat 3 y.val ++ 0b111#3] := by
  fin_cases y <;> rfl

end Sys2Proof

namespace Sys2Proof.Machine

/-! ### What each form executes -/

theorem exec_jpCondInstr (cc : Cond) (a16 : Word) (s : State) :
    exec (jpCondInstr cc a16) s = if s.cond cc then jump a16 16 s else done 3 12 s := by
  cases cc <;> rfl

theorem exec_jrCondInstr (cc : Cond) (e8 : Byte) (s : State) :
    exec (jrCondInstr cc e8) s = if s.cond cc then jumpRelative e8 12 s else done 2 8 s := by
  cases cc <;> rfl

theorem exec_callCondInstr (cc : Cond) (a16 : Word) (s : State) :
    exec (callCondInstr cc a16) s = if s.cond cc then callTo a16 3 24 s else done 3 12 s := by
  cases cc <;> rfl

theorem exec_retCondInstr (cc : Cond) (s : State) :
    exec (retCondInstr cc) s = if s.cond cc then jump s.popped 20 s.dropTop else done 1 8 s := by
  cases cc <;> rfl

/-- A restart is a one-byte call, to eight times its code (45_control.md R286). -/
theorem exec_rstInstr (y : Fin 8) (s : State) : exec (rstInstr y) s = callTo (BitVec.ofNat 16 (y.val * 8)) 1 16 s := by
  fin_cases y <;> rfl

/-- The condition the model tests is the one the statements read off the flag byte (00_scope.md R15). -/
theorem cond_eq_holds (s : State) (cc : Cond) : s.cond cc = holds s.f cc := by
  cases cc <;> rfl

/-! ### Calls -/

/-- A call, taken, pushes the address behind itself and ends at its target (45_control.md R280, R286). -/
theorem pushes_of_exec_eq_callTo {i : Instr} {s : State} {target len : Word} {n : Byte} (hexec : exec i s = callTo target len n s) :
    Pushes i s (s.pc + len) target n :=
  pushes_of_exec_eq (k := jump target n) hexec rfl

/-- Settles O35: a taken call is one push and a jump; one not taken only moves `PC` past itself. -/
theorem calls : Obligations.Calls := by
  unfold Obligations.Calls
  refine fun a16 => ⟨rfl, fun s => pushes_of_exec_eq_callTo rfl,
    fun cc => ⟨encode_callCondInstr cc a16, fun s => ⟨fun htaken => ?_, fun hnot => ?_⟩⟩⟩
  · apply pushes_of_exec_eq_callTo
    rw [exec_callCondInstr, cond_eq_holds, if_pos htaken]
  · rw [exec_callCondInstr, cond_eq_holds, hnot]
    rfl

/-- Settles O37: each restart is a one-byte call. -/
theorem restarts : Obligations.Restarts := by
  unfold Obligations.Restarts
  exact fun y => ⟨encode_rstInstr y, fun s => pushes_of_exec_eq_callTo (exec_rstInstr y s)⟩

/-! ### A return after a call -/

/-- A call whose two stack bytes are writable completes. -/
theorem callTo_of_writable {s : State} (hhigh : writable (s.sp - 1)) (hlow : writable (s.sp - 2)) (target len : Word) (n : Byte) :
    callTo target len n s = .next ((s.pushed (s.pc + len)).goto target n) := by
  rw [callTo, push16_of_not_xram _ (place_ne_xram_of_writable hhigh s) (place_ne_xram_of_writable hlow s), andThen_next, jump]

theorem exec_ret (s : State) : exec .ret s = .next (s.dropTop.goto s.popped 16) := rfl

/-- The return finds the address the call pushed, and raises `SP` by what the push lowered it. -/
theorem exists_exec_ret_after_call {s : State} (hs : s.Inv) (hhigh : writable (s.sp - 1)) (hlow : writable (s.sp - 2))
    {i : Instr} {target len : Word} {n : Byte} (hexec : exec i s = callTo target len n s) :
    ∃ t u, exec i s = .next t ∧ t.pc = target ∧ exec .ret t = .next u ∧ u.pc = s.pc + len ∧ u.sp = s.sp := by
  have hcall : exec i s = .next ((s.pushed (s.pc + len)).goto target n) :=
    hexec.trans (callTo_of_writable hhigh hlow target len n)
  have hpopped : (s.pushed (s.pc + len)).popped = s.pc + len := popped_pushed hs hhigh hlow _
  exact ⟨_, _, hcall, rfl, exec_ret _, hpopped, BitVec.sub_add_cancel s.sp 2⟩

/-- Settles O38: `CALL` and `RST` are both calls, of three bytes and of one. -/
theorem callThenReturnComesBack : Obligations.CallThenReturnComesBack := by
  unfold Obligations.CallThenReturnComesBack
  refine fun s hs hhigh hlow => ⟨fun a16 => exists_exec_ret_after_call hs hhigh hlow rfl, fun y => ?_⟩
  obtain ⟨t, u, hcall, -, hret⟩ := exists_exec_ret_after_call hs hhigh hlow (exec_rstInstr y s)
  exact ⟨t, u, hcall, hret⟩

/-! ### Jumps and returns -/

/-- An instruction that ends in one of two ways by a condition ends in the state that condition selects. -/
theorem exec_eq_next_ite {i : Instr} {s t u : State} {cc : Cond}
    (hexec : exec i s = if s.cond cc then .next t else .next u) : exec i s = .next (if holds s.f cc then t else u) := by
  rw [hexec, cond_eq_holds, apply_ite Host.Outcome.next]

/-- Settles O33: each form moves `PC` and no other register. -/
theorem absoluteJumps : Obligations.AbsoluteJumps := by
  unfold Obligations.AbsoluteJumps
  refine ⟨rfl, fun _ => rfl, fun a16 => ⟨rfl, fun _ => rfl, fun cc => ⟨encode_jpCondInstr cc a16, fun s => ?_⟩⟩⟩
  exact exec_eq_next_ite (exec_jpCondInstr cc a16 s)

/-- Settles O34: the displacement is added past the two bytes of the instruction. -/
theorem relativeJumps : Obligations.RelativeJumps := by
  unfold Obligations.RelativeJumps
  refine fun e8 => ⟨rfl, fun _ => rfl, fun cc => ⟨encode_jrCondInstr cc e8, fun s => ?_⟩⟩
  exact exec_eq_next_ite (exec_jrCondInstr cc e8 s)

/-- Settles O36: each return taken is a pop into `PC`; `RETI` sets `ime` besides. -/
theorem returns : Obligations.Returns := by
  unfold Obligations.Returns
  refine ⟨rfl, rfl, encode_retCondInstr, fun s => ⟨exec_ret s, rfl, fun cc => ?_⟩⟩
  exact exec_eq_next_ite (exec_retCondInstr cc s)

end Sys2Proof.Machine
end

section
/-! PROOFS. The system instructions (46_system.md): `NOP`, `DI` and `EI` (O39), the unimplemented opcodes (O40),
`ADMITTED_OPCODES` (O5) and the prefix byte (O7). -/

open Sys2Proof.Stated

namespace Sys2Proof

/-! ### The bits of a secondary opcode that its cost turns on (30_encoding.md R102, R104, R111) -/

theorem extractLsb'_eq_atHL_iff (op2 : Byte) : op2.extractLsb' 0 3 = 0b110 ↔ r8OfCode (fieldZ op2) = .atHL := by
  revert op2
  decide

theorem extractLsb'_eq_bit_iff (op2 : Byte) : op2.extractLsb' 6 2 = 0b01 ↔ fieldX op2 = 1 := by
  revert op2
  decide

end Sys2Proof

namespace Sys2Proof.Machine

/-! ### Single opcodes (R300 to R304, R306) -/

/-- Settles O39: each advances past its one byte, `DI` and `EI` with `ime` written. -/
theorem nopAndInterruptEnable : Obligations.NopAndInterruptEnable := by
  unfold Obligations.NopAndInterruptEnable
  exact ⟨rfl, rfl, rfl, fun _ => ⟨rfl, rfl, rfl⟩⟩

theorem raise_unimplementedOpcode (op : Byte) (s : State) : raise (.unimplementedOpcode op s.pc) s = opcodeFault op s := rfl

/-- Settles O40: each of the thirteen is one raise on the state as it stands. -/
theorem unimplementedOpcodesRaise : Obligations.UnimplementedOpcodesRaise := by
  unfold Obligations.UnimplementedOpcodesRaise
  intro x hx
  fin_cases hx <;> exact ⟨rfl, raise_unimplementedOpcode _⟩

/-! ### `ADMITTED_OPCODES` (R307) -/

theorem Launch.admitsPrimary_of_pinned (p : Launch) {op : Byte} (h : op ∈ pinnedOpcodes) : p.admitsPrimary op = true := by
  simp [Launch.admitsPrimary, h]

theorem Launch.admitsPrimary_of_excluded {p : Launch} {op : Byte} (h : op ∈ p.excludedPrimary) (hpinned : op ∉ pinnedOpcodes) :
    p.admitsPrimary op = false := by
  simp [Launch.admitsPrimary, h, hpinned]

theorem Launch.admitsSecondary_iff (p : Launch) (op2 : Byte) : p.admitsSecondary op2 = true ↔ op2 ∉ p.excludedSecondary := by
  simp [Launch.admitsSecondary]

theorem step_of_excluded {s : State} (hfault : s.fault = none) (h : s.launch.admitsPrimary (s.read s.pc) = false) :
    step s = opcodeFault (s.read s.pc) s := by
  have hfetch : s.fetch = .error (s.read s.pc) := if_pos h
  exact step_of_fetch_error hfault hfetch

/-- A pinned opcode other than the prefix runs what it decodes to, whatever the parameter leaves out. -/
theorem step_of_pinned {s : State} {op : Byte} (hfault : s.fault = none) (hop : s.read s.pc = op) (hpinned : op ∈ pinnedOpcodes)
    (hprefix : op ≠ 0xCB) : step s = exec (decodeBytes op (s.read (s.pc + 1)) (s.read (s.pc + 2))) s := by
  subst hop
  exact step_of_fetch_ok hfault (fetch_of_admitted (s.launch.admitsPrimary_of_pinned hpinned) fun h => absurd h hprefix)

/-! ### The prefix byte (R305) -/

theorem exec_prefixCB_of_excluded {s : State} (h : s.read (s.pc + 1) ∈ s.launch.excludedSecondary) :
    exec .prefixCB s = opcodeFault (s.read (s.pc + 1)) s := by
  rw [exec_prefixCB, if_neg (by simpa only [Launch.admitsSecondary_iff, not_not]), raise_unimplementedOpcode]

theorem exec_prefixCB_of_admitted {s : State} (h : s.read (s.pc + 1) ∉ s.launch.excludedSecondary) :
    exec .prefixCB s = exec (decodeSecondary (s.read (s.pc + 1))) s := by
  rw [exec_prefixCB, if_pos ((Launch.admitsSecondary_iff ..).mpr h)]

/-- The step decodes both bytes at once, to what the bare prefix makes of the second. -/
theorem step_of_prefix {s : State} (hfault : s.fault = none) (hop : s.read s.pc = 0xCB) : step s = exec .prefixCB s := by
  have hprimary : s.launch.admitsPrimary (s.read s.pc) = true := hop ▸ Launch.admitsPrimary_of_pinned _ (by decide)
  rw [exec_prefixCB]
  split_ifs with hsecondary
  · have hinstr : s.instrAt = decodeSecondary (s.read (s.pc + 1)) := by
      rw [State.instrAt, hop]
      rfl
    rw [step_of_fetch_ok hfault (fetch_of_admitted hprimary fun _ => hsecondary), hinstr]
  · have hfetch : s.fetch = .error (s.read (s.pc + 1)) :=
      (if_neg (by rw [hprimary]; decide)).trans (if_pos ⟨hop, Bool.eq_false_iff.mpr hsecondary⟩)
    exact step_of_fetch_error hfault hfetch

/-- Settles O5: what is left out is raised in place of a fetch; the pinned opcodes are fetched, and after 0xCB the second byte
decides. -/
theorem excludedOpcodesRaise : Obligations.ExcludedOpcodesRaise := by
  unfold Obligations.ExcludedOpcodesRaise
  refine fun s hfault => ⟨fun h hpinned => ?_, fun hop h => ?_, fun hop => ?_, fun hop => ?_, fun hop => ?_, fun hop h => ?_⟩
  · exact step_of_excluded hfault (Launch.admitsPrimary_of_excluded h hpinned)
  · rw [step_of_prefix hfault hop, exec_prefixCB_of_excluded h]
  · exact step_of_pinned hfault hop (by decide) (by decide)
  · exact step_of_pinned hfault hop (by decide) (by decide)
  · rw [State.readWord, BitVec.add_assoc]
    exact step_of_pinned hfault hop (by decide) (by decide)
  · rw [step_of_prefix hfault hop, exec_prefixCB_of_admitted h]

/-! ### What a secondary instruction ends in (44_rotate_bit.md R244 to R254) -/

/-- `r` is a next state two bytes past `s`, with the count `n`. -/
def EndsPair (s : State) (n : Byte) (r : Res) : Prop := ∃ t, r = .next t ∧ t.pc = s.pc + 2 ∧ t.cycles = some n

/-- What a secondary instruction of block `x` costs on the operand `r`. -/
def secondaryCycles (x : Fin 4) (r : R8) : Byte := if r ≠ .atHL then 8 else if x = 1 then 12 else 16

theorem modifyCycles_eq_secondaryCycles {x : Fin 4} (hx : x ≠ 1) (r : R8) : modifyCycles r = secondaryCycles x r := by
  cases r with
  | reg q => rfl
  | atHL => exact (if_neg hx).symm

theorem EndsPair.done {s t : State} (h : t.pc = s.pc) (n : Byte) : EndsPair s n (done 2 n t) :=
  ⟨_, done_of_pc_eq h 2 n, rfl, rfl⟩

/-- An operand write completes in a register, and through `HL` outside the window without a store. -/
theorem exists_writeR8_eq_next {r : R8} {s : State} (h : r = .atHL → ¬ absent s.hl) (v : Byte) :
    ∃ t, writeR8 r v s = .next t ∧ t.pc = s.pc := by
  cases r with
  | reg q => exact ⟨_, writeR8_reg q v s, State.setReg_pc ..⟩
  | atHL => exact ⟨_, write_of_not_absent (h rfl) v s, State.store_pc ..⟩

theorem EndsPair.rotateR8 {r : R8} {s : State} (h : r = .atHL → ¬ absent s.hl) (op : Byte → Shifted) :
    EndsPair s (modifyCycles r) (rotateR8 op r s) := by
  obtain ⟨t, ht, hpc⟩ := exists_writeR8_eq_next h (op (s.readR8 r)).r
  rw [Machine.rotateR8, ht, andThen_next]
  exact .done (t := t.setFlags ..) hpc _

theorem EndsPair.modifyR8 {r : R8} {s : State} (h : r = .atHL → ¬ absent s.hl) (op : Byte → Byte) :
    EndsPair s (modifyCycles r) (modifyR8 op r s) := by
  obtain ⟨t, ht, hpc⟩ := exists_writeR8_eq_next h (op (s.readR8 r))
  rw [Machine.modifyR8, ht, andThen_next]
  exact .done hpc _

theorem EndsPair.testBit (b : Fin 8) (r : R8) (s : State) : EndsPair s (secondaryCycles 1 r) (testBit b r s) := by
  cases r <;> exact .done rfl _

/-- The blocks but `BIT` write their operand. -/
theorem EndsPair.exec_decodeSecondary {op2 : Byte} {s : State}
    (h : r8OfCode (fieldZ op2) ≠ .atHL ∨ fieldX op2 = 1 ∨ ¬ absent s.hl) :
    EndsPair s (secondaryCycles (fieldX op2) (r8OfCode (fieldZ op2))) (exec (decodeSecondary op2) s) := by
  unfold decodeSecondary
  generalize r8OfCode (fieldZ op2) = r at h ⊢
  generalize fieldX op2 = x at h ⊢
  have hwrites (hx : x ≠ 1) (hr : r = .atHL) : ¬ absent s.hl := (h.resolve_left (not_not.mpr hr)).resolve_left hx
  match x with
  | 0 =>
    rw [exec_rotInstr, ← modifyCycles_eq_secondaryCycles (by decide)]
    exact .rotateR8 (hwrites (by decide)) _
  | 1 => exact .testBit (fieldY op2) r s
  | 2 =>
    rw [← modifyCycles_eq_secondaryCycles (by decide)]
    exact .modifyR8 (hwrites (by decide)) (clearBit · (fieldY op2))
  | 3 =>
    rw [← modifyCycles_eq_secondaryCycles (by decide)]
    exact .modifyR8 (hwrites (by decide)) (setBit · (fieldY op2))

/-- Settles O7: the step and the bare prefix turn on the same second byte, and what it selects completes but for a write through
`HL` into the window without a store. -/
theorem prefixRunsSecondaryTable : Obligations.PrefixRunsSecondaryTable := by
  unfold Obligations.PrefixRunsSecondaryTable
  refine ⟨rfl, fun s => ⟨step_of_prefix, exec_prefixCB_of_excluded, exec_prefixCB_of_admitted, fun hadmitted h => ?_⟩⟩
  rw [exec_prefixCB_of_admitted hadmitted]
  simp only [ne_eq, extractLsb'_eq_atHL_iff, extractLsb'_eq_bit_iff] at h ⊢
  exact EndsPair.exec_decodeSecondary h

end Sys2Proof.Machine
end

section
/-! PROOFS. Faults (60_exceptions.md): what one step ends in, and what follows for the fault record (O6), the two faults (O53) and
the count returned (O54). -/

open Sys2Proof.Stated

namespace Sys2Proof.Machine

/-! ### What one step ends in -/

/-- `u` is `s` but for memory, the latch, `F`, the fault record and the count. -/
def State.sameRegisters (s u : State) : Prop :=
  u.pc = s.pc ∧ u.sp = s.sp ∧ u.ime = s.ime ∧ u.launch = s.launch ∧
    u.a = s.a ∧ u.b = s.b ∧ u.c = s.c ∧ u.d = s.d ∧ u.e = s.e ∧ u.h = s.h ∧ u.l = s.l

theorem State.sameRegisters_with_f (s : State) (g : Byte) : s.sameRegisters { s with f := g } :=
  ⟨rfl, rfl, rfl, rfl, rfl, rfl, rfl, rfl, rfl, rfl, rfl⟩

theorem State.sameRegisters_of_store {s u : State} {a : Word} {v : Byte} (h : (s.store a v).sameRegisters u) :
    s.sameRegisters u := by
  simpa only [State.sameRegisters, State.store_pc, State.store_sp, State.store_ime, State.store_launch, State.store_a,
    State.store_b, State.store_c, State.store_d, State.store_e, State.store_h, State.store_l] using h

/-- The opcode byte a step from `s` reports: the one at `PC`, or the one behind the prefix byte (60_exceptions.md R320). -/
def State.reports (s : State) (op : Byte) : Prop := op = s.read s.pc ∨ (s.read s.pc = 0xCB ∧ op = s.read (s.pc + 1))

/-- What a step from `s` can end in: a fault of 60_exceptions.md, or a next state with its count. -/
inductive StepEnds (s : State) : Res → Prop
  | stuck {report : FaultReport} (hfault : s.fault = some report) : StepEnds s (.fault (.stuck report))
  | opcode {op : Byte} (hfault : s.fault = none) (hop : s.reports op) : StepEnds s (opcodeFault op s)
  | memory {a : Word} {v : Byte} {u : State} (hfault : s.fault = none) (ha : absent a) (hu : s.sameRegisters u) :
      StepEnds s (memoryFault a v u)
  | next {t : State} {n : Byte} (hfault : s.fault = none) (ht : t.fault = none) (hn : n ∈ counts) (hcycles : t.cycles = some n) :
      StepEnds s (.next t)

/-- Stores end in a next state, or raise at the first address without a store, before any register but `F` is written. -/
theorem Stores.next_or_memoryFault {ws : List (Word × Byte)} {s : State} {r : Res} (h : Stores ws s r) :
    (∃ t, r = .next t ∧ t.fault = s.fault ∧ ∃ n ∈ counts, t.cycles = some n) ∨
      ∃ a v u, r = memoryFault a v u ∧ absent a ∧ s.sameRegisters u := by
  induction ws generalizing s with
  | nil =>
    obtain ⟨t, rfl, ⟨-, -, -, -, -, -, -, -, ht⟩, hcount⟩ := h
    exact .inl ⟨t, rfl, ht, hcount⟩
  | cons w ws ih =>
    obtain ⟨a, v⟩ := w
    obtain ⟨hplace, g, rfl⟩ | ⟨-, hrest⟩ := h
    · exact .inr ⟨a, v, _, rfl, (place_eq_xram_iff s a).mp hplace, s.sameRegisters_with_f g⟩
    · obtain ⟨t, hr, ht, hcount⟩ | ⟨b, x, u, hr, hb, hu⟩ := ih hrest
      · exact .inl ⟨t, hr, ht.trans (State.store_fault ..), hcount⟩
      · exact .inr ⟨b, x, u, hr, hb, State.sameRegisters_of_store hu⟩

theorem Stores.stepEnds {ws : List (Word × Byte)} {s : State} {r : Res} (h : Stores ws s r) (hfault : s.fault = none) :
    StepEnds s r := by
  obtain ⟨t, rfl, ht, n, hn, hcycles⟩ | ⟨a, v, u, rfl, ha, hu⟩ := h.next_or_memoryFault
  · exact .next hfault (ht.trans hfault) hn hcycles
  · exact .memory hfault ha hu

/-- An instruction at `PC` that is encoded by one byte is encoded by the byte there. -/
theorem eq_read_of_encode_instrAt {s : State} {op : Byte} (h : encode s.instrAt = [op]) : op = s.read s.pc := by
  rw [State.instrAt, encode_decodeBytes] at h
  exact (List.cons.inj h).1.symm

theorem exec_instrAt_ends {s : State} (hfault : s.fault = none) : StepEnds s (exec s.instrAt s) := by
  obtain ⟨op, hencode, hraise⟩ | ⟨ws, hstores, -⟩ := exec_effect_of_ne s.instrAt (decodeBytes_ne_prefixCB _ _ _) s
  · rw [hraise]
    exact .opcode hfault (.inl (eq_read_of_encode_instrAt hencode))
  · exact hstores.stepEnds hfault

/-- Every step ends in one of the four ways. -/
theorem step_ends (s : State) : StepEnds s (step s) := by
  cases hfault : s.fault with
  | some report =>
    rw [step_of_fault hfault]
    exact .stuck hfault
  | none =>
    obtain ⟨hfetch, -⟩ | ⟨hfetch, hprefix, -⟩ | hfetch := fetch_cases s
    · rw [step_of_fetch_error hfault hfetch]
      exact .opcode hfault (.inl rfl)
    · rw [step_of_fetch_error hfault hfetch]
      exact .opcode hfault (.inr ⟨hprefix, rfl⟩)
    · rw [step_of_fetch_ok hfault hfetch]
      exact exec_instrAt_ends hfault

theorem StepEnds.of_step_eq {s : State} {r : Res} (h : step s = r) : StepEnds s r := h ▸ step_ends s

/-! ### The fault record (R324) -/

/-- Settles O6: a set record is the first thing a step looks at, and only a next state of a machine without one is left. -/
theorem faultedMachineNeverSteps : Obligations.FaultedMachineNeverSteps := by
  unfold Obligations.FaultedMachineNeverSteps
  refine ⟨fun s r hfault => step_of_fault hfault, fun s t hstep => ?_⟩
  cases StepEnds.of_step_eq hstep with
  | next hfault ht => exact ⟨hfault, ht⟩

/-! ### The two faults (R320, R321, R325) -/

/-- Settles O53: no way a step ends is a refusal, and each of the two faults is left by one of them. -/
theorem stepFaultsAsStated : Obligations.StepFaultsAsStated := by
  unfold Obligations.StepFaultsAsStated
  refine fun s => ⟨fun r hstep => ?_, fun op pc w hstep => ?_, fun a v w hstep => ?_⟩
  · cases StepEnds.of_step_eq hstep
  · cases StepEnds.of_step_eq hstep with
    | opcode hfault hop => exact ⟨hfault, rfl, hop, rfl⟩
  · cases StepEnds.of_step_eq hstep with
    | memory hfault ha hu => exact ⟨hfault, ha, rfl, rfl, hu⟩

/-! ### The count returned (70_reset_and_hazards.md R371) -/

theorem counts_in_range {n : Byte} (h : n ∈ counts) : n.toNat % 4 = 0 ∧ 4 ≤ n.toNat ∧ n.toNat ≤ 24 := by
  revert n
  decide

/-- Settles O54: a step that completes returns one of the six counts. -/
theorem cycleCountsAreInRange : Obligations.CycleCountsAreInRange := by
  unfold Obligations.CycleCountsAreInRange
  intro s t hstep
  cases StepEnds.of_step_eq hstep with
  | next _ _ hn hcycles => exact ⟨_, hcycles, counts_in_range hn⟩

end Sys2Proof.Machine
end

section
/-! PROOFS. The host's side of a run (70_reset_and_hazards.md): the video memory (O59), the end marker (O55) and the end state of a
program (O60). -/

open Sys2Proof.Stated

namespace Sys2Proof.Machine

/-! ### The video memory (R363) -/

theorem read_vram (s : State) {k : Nat} (hk : k < 8192) : s.read (BitVec.ofNat 16 (0x8000 + k)) = s.vram.get k := by
  have hplace : s.place (BitVec.ofNat 16 (0x8000 + k)) = .vram k := by
    rw [place_eq_vram_iff, BitVec.toNat_ofNat]
    omega
  rw [State.read, hplace, State.readPlace]

/-- Settles O59: the list is the store of the window, offset by offset. -/
theorem videoMemoryIsTheWindow : Obligations.VideoMemoryIsTheWindow := by
  unfold Obligations.VideoMemoryIsTheWindow
  refine fun s => ⟨by rw [State.videoMemory, List.length_map, List.length_range, Config.vramSize], fun k hk => ?_⟩
  rw [read_vram s hk, State.videoMemory, List.getElem?_map, List.getElem?_range (show k < Config.vramSize from hk)]
  rfl

/-! ### The end marker (R364, 45_control.md R273) -/

theorem State.finished_iff (s : State) :
    s.finished = true ↔ s.fault = none ∧ s.read s.pc = 0x18 ∧ s.read (s.pc + 1) = 0xFE := by
  simp only [State.finished, Bool.and_eq_true, Option.isNone_iff_eq_none, beq_iff_eq, and_assoc]

theorem State.finished_with_cycles (s : State) (n : Option Byte) : ({ s with cycles := n } : State).finished = s.finished := rfl

theorem instrAt_of_finished {s : State} (h : s.finished = true) : s.instrAt = .jr 0xFE := by
  obtain ⟨-, hop, hdisp⟩ := s.finished_iff.mp h
  rw [State.instrAt, hop, hdisp]
  rfl

/-- The displacement -2 is taken from the address past the two bytes, so the jump leads to itself. -/
theorem exec_jr_minus_two (s : State) : exec (.jr 0xFE) s = .next { s with cycles := some 12 } := by
  have htarget : s.pc + 2 + sext16 0xFE = s.pc := by
    have hsext : (2 : Word) + sext16 0xFE = 0#16 := by decide
    rw [BitVec.add_assoc, hsext, BitVec.add_zero]
  exact congrArg (jump · 12 s) htarget

/-- Settles O55: the instruction at `PC` jumps to itself, and being finished does not depend on the count. -/
theorem endMarkerLoopsForEver : Obligations.EndMarkerLoopsForEver := by
  unfold Obligations.EndMarkerLoopsForEver
  rintro s hfinished ⟨hfault, hprimary, hsecondary⟩
  refine ⟨?_, (s.finished_with_cycles _).trans hfinished⟩
  rw [step_of_fetch_ok hfault (fetch_of_admitted hprimary hsecondary), instrAt_of_finished hfinished, exec_jr_minus_two]

/-! ### The end state (R364) -/

theorem EndsIn.finished {s t : State} (h : EndsIn s t) : t.finished = true := by
  obtain ⟨-, -, ht, -⟩ := h
  exact ht

theorem endsIn_self {s : State} (h : s.finished = true) : EndsIn s s :=
  ⟨0, run_zero s, h, fun k _ hk => absurd hk (Nat.not_lt_zero k)⟩

/-- Of two moments of a run, the later is not the first at which the program is finished. -/
theorem EndsIn.unique {s t u : State} (ht : EndsIn s t) (hu : EndsIn s u) : u = t := by
  obtain ⟨n, hn, htfin, htfirst⟩ := ht
  obtain ⟨m, hm, hufin, hufirst⟩ := hu
  obtain h | rfl | h := Nat.lt_trichotomy n m
  · exact absurd htfin (Bool.eq_false_iff.mp (hufirst n t h hn))
  · exact Host.Outcome.next.inj (hm.symm.trans hn)
  · exact absurd hufin (Bool.eq_false_iff.mp (htfirst m u h hm))

theorem endsIn_iff_of_not_finished {s t : State} (h : s.finished = false) :
    EndsIn s t ↔ ∃ u, step s = .next u ∧ EndsIn u t := by
  constructor
  · rintro ⟨n, hn, ht, hfirst⟩
    cases n with
    | zero =>
      cases hn
      exact absurd ht (Bool.eq_false_iff.mp h)
    | succ n =>
      obtain ⟨u, hu, hn⟩ := run_succ_eq_next_iff.mp hn
      exact ⟨u, hu, n, hn, ht, fun k v hk hv =>
        hfirst (k + 1) v (Nat.succ_lt_succ hk) (run_succ_eq_next_iff.mpr ⟨u, hu, hv⟩)⟩
  · rintro ⟨u, hu, n, hn, ht, hfirst⟩
    refine ⟨n + 1, run_succ_eq_next_iff.mpr ⟨u, hu, hn⟩, ht, fun k v hk hv => ?_⟩
    cases k with
    | zero =>
      cases hv
      exact h
    | succ k =>
      obtain ⟨u', hu', hv⟩ := run_succ_eq_next_iff.mp hv
      cases hu.symm.trans hu'
      exact hfirst k v (Nat.lt_of_succ_lt_succ hk) hv

/-- Settles O60: a finished state is its own end, any other's end is that of the state after its step, and a run has one first
finished moment. -/
theorem endStateIsTheFirstFinished : Obligations.EndStateIsTheFirstFinished := by
  unfold Obligations.EndStateIsTheFirstFinished
  refine fun s t => ⟨fun hfinished => ⟨(endsIn_self hfinished).unique, ?_⟩, endsIn_iff_of_not_finished,
    fun h => ⟨h.finished, State.fault_of_finished h.finished, fun u => h.unique⟩⟩
  rintro rfl
  exact endsIn_self hfinished

end Sys2Proof.Machine
end
